-- ==== Sys2Proof/Word.lean ====
section
/-! DEFINITION. The word types of the block (00_scope.md R6: every stored value is unsigned, of at most 8 bits). -/

namespace Sys2Proof

/-- `u8` (R6): a byte of the inbound stream, of a command buffer, or of the datapath. -/
abbrev Byte := BitVec 8

/-- `u4` (R6): half a byte of an encoding. -/
abbrev Nibble := BitVec 4

/-- Format `BTN` (30_encoding.md R65): bit 0 main, bit 1 up, bit 2 down, bit 3 setup; 1 = pressed. -/
abbrev Btn := BitVec 4

/-- Format `EVT` (30_encoding.md R72): kind in bits 11:8, operand in bits 7:0. -/
abbrev EventWord := BitVec 12

end Sys2Proof
end

