-- ==== Sys2Proof/Config.lean ====
section
/-! DEFINITION. The parameters of 00_scope.md R4 at the values this hardware takes (log entry 8), and the free values
of log entry 7. Rates and timeouts of R4 are timing only (R180) and stand nowhere in the model. -/

namespace Sys2Proof.Config

/-- `DEBOUNCE_N` (R4, 90_conflicts.md C2): consecutive differing samples needed to flip a debounced bit. -/
def debounceN : Nat := 2

/-- `ANIM_DIV` (R4): debounce ticks per animation tick. -/
def animDiv : Nat := 3

/-- `BUF_LEN` and `N_MAX_STORED` (R4): bytes per command buffer. -/
def bufLen : Nat := 10

/-- `PHASE_LEN` (R4): bytes per Color Phase. -/
def phaseLen : Nat := 5

/-- `HDR_CMD` (R4): the high nibble of a command header. -/
def hdrCmd : Nibble := 0x8#4

/-- `HDR_IDLE` (R4): the high nibble of an idle byte. -/
def hdrIdle : Nibble := 0x0#4

/-- `SLEW_UNLIMITED` (R4): the effective slew when the slew byte is 0. -/
def slewUnlimited : Byte := 255#8

/-- `LUT_BP1` (R4): first breakpoint of the colour curve. -/
def lutBp1 : Nat := 128

/-- `LUT_BP2` (R4): second breakpoint of the colour curve. -/
def lutBp2 : Nat := 192

/-- `PWM_STEPS` (R4): modulus of the PWM counter. -/
def pwmSteps : Nat := 256

/-- `RESET_COMBO` (R4): setup and down pressed, no other. -/
def resetCombo : Btn := 0b1100#4

/-- `FLASH_TIME0` (R4): animation ticks of the flash pattern's white phase. -/
def flashTime0 : Byte := 4#8

/-- `FLASH_TIME1` (R4): animation ticks of the flash pattern's black phase. -/
def flashTime1 : Byte := 4#8

/-- FREE VALUE (log entry 7): what `pt` holds after an increment of 255, which 42_animation.md R118 says cannot occur.
No proof can see it. -/
opaque ptBeyond : Nat → Byte

/-- FREE VALUE (log entry 7): what `rx_idx` holds after an increment of 15, which 42_animation.md R118 says cannot
occur. No proof can see it. -/
opaque rxIdxBeyond : Nat → Nibble

end Sys2Proof.Config
end

