-- ==== Sys2Proof/Syntax.lean ====
section
/-! DEFINITION. The instructions: one constructor for each of the 40 rows of spec/opcode_table.json. Operands are
the fields of the formats of 30_encoding.md (R61, R62, R72) at their own widths. -/

namespace Sys2Proof

/-- The two parser states of 41_command_receiver.md R90, the one mode that changes decoding (30_encoding.md R71). -/
inductive ParserState where
  /-- `rx_rem = 0`. -/
  | awaitingHeader
  /-- `rx_rem` in 1..15. -/
  | inPayload
  deriving DecidableEq, Repr

/-- The operations of the block. -/
inductive Instr where
  /-- byte 0x00..0x0F while awaiting a header (R94); `n` is the ignored low nibble. -/
  | idle (n : Nibble)
  /-- header 0x80 while awaiting a header (R93). -/
  | cmd0
  /-- header 0x81 while awaiting a header (R92, R99). -/
  | cmd1
  /-- header 0x82 while awaiting a header (R92, R99). -/
  | cmd2
  /-- header 0x83 while awaiting a header (R92, R99). -/
  | cmd3
  /-- header 0x84 while awaiting a header (R92, R99). -/
  | cmd4
  /-- header 0x85 while awaiting a header (R92, R99). -/
  | cmd5
  /-- header 0x86 while awaiting a header (R92, R99). -/
  | cmd6
  /-- header 0x87 while awaiting a header (R92, R99). -/
  | cmd7
  /-- header 0x88 while awaiting a header (R92, R99). -/
  | cmd8
  /-- header 0x89 while awaiting a header (R92, R99). -/
  | cmd9
  /-- header 0x8A while awaiting a header (R92, R100). -/
  | cmd10
  /-- header 0x8B while awaiting a header (R92, R98). -/
  | cmd11
  /-- header 0x8C while awaiting a header (R92, R98). -/
  | cmd12
  /-- header 0x8D while awaiting a header (R92, R98). -/
  | cmd13
  /-- header 0x8E while awaiting a header (R92, R98). -/
  | cmd14
  /-- header 0x8F while awaiting a header (R92, R98). -/
  | cmd15
  /-- byte 0x10..0x1F while awaiting a header (R95); `n` is the ignored low nibble. -/
  | bad1 (n : Nibble)
  /-- byte 0x20..0x2F while awaiting a header (R95); `n` is the ignored low nibble. -/
  | bad2 (n : Nibble)
  /-- byte 0x30..0x3F while awaiting a header (R95); `n` is the ignored low nibble. -/
  | bad3 (n : Nibble)
  /-- byte 0x40..0x4F while awaiting a header (R95); `n` is the ignored low nibble. -/
  | bad4 (n : Nibble)
  /-- byte 0x50..0x5F while awaiting a header (R95); `n` is the ignored low nibble. -/
  | bad5 (n : Nibble)
  /-- byte 0x60..0x6F while awaiting a header (R95); `n` is the ignored low nibble. -/
  | bad6 (n : Nibble)
  /-- byte 0x70..0x7F while awaiting a header (R95); `n` is the ignored low nibble. -/
  | bad7 (n : Nibble)
  /-- byte 0x90..0x9F while awaiting a header (R95); `n` is the ignored low nibble. -/
  | bad9 (n : Nibble)
  /-- byte 0xA0..0xAF while awaiting a header (R95); `n` is the ignored low nibble. -/
  | badA (n : Nibble)
  /-- byte 0xB0..0xBF while awaiting a header (R95); `n` is the ignored low nibble. -/
  | badB (n : Nibble)
  /-- byte 0xC0..0xCF while awaiting a header (R95); `n` is the ignored low nibble. -/
  | badC (n : Nibble)
  /-- byte 0xD0..0xDF while awaiting a header (R95); `n` is the ignored low nibble. -/
  | badD (n : Nibble)
  /-- byte 0xE0..0xEF while awaiting a header (R95); `n` is the ignored low nibble. -/
  | badE (n : Nibble)
  /-- byte 0xF0..0xFF while awaiting a header (R95); `n` is the ignored low nibble. -/
  | badF (n : Nibble)
  /-- any byte while in payload (R96). -/
  | data (b : Byte)
  /-- power-on reset (R170). -/
  | por
  /-- debounce tick with the sample `s` (R83). -/
  | dbTick (s : Btn)
  /-- PWM tick (R131). -/
  | pwmTick
  /-- one received byte (R91). -/
  | rxByte (b : Byte)
  /-- read-and-clear of the press edges selected by `m` (R85). -/
  | consume (m : Btn)
  /-- watchdog expiry (R144). -/
  | wdtFire
  /-- internal: one animation tick (R110). -/
  | animTick
  /-- internal: entry into RESETTING (R141). -/
  | resetEnter
  deriving DecidableEq, Repr

end Sys2Proof
end

