-- ==== Sys2Proof/WellFormed.lean ====
section
/-! DEFINITION. What makes an instruction fit the place it stands in. The widths of operands are in their types
(Syntax.lean); what is left to check is the table's key "state" (in which parser state a byte class applies) and its
key "external" (which operations an input may start). -/

namespace Sys2Proof

/-- The key "state" of spec/opcode_table.json: the parser state a row of format HDR or PAY applies in. -/
def Instr.parserState : Instr → Option ParserState
  | .idle _ => some .awaitingHeader
  | .cmd0 => some .awaitingHeader
  | .cmd1 => some .awaitingHeader
  | .cmd2 => some .awaitingHeader
  | .cmd3 => some .awaitingHeader
  | .cmd4 => some .awaitingHeader
  | .cmd5 => some .awaitingHeader
  | .cmd6 => some .awaitingHeader
  | .cmd7 => some .awaitingHeader
  | .cmd8 => some .awaitingHeader
  | .cmd9 => some .awaitingHeader
  | .cmd10 => some .awaitingHeader
  | .cmd11 => some .awaitingHeader
  | .cmd12 => some .awaitingHeader
  | .cmd13 => some .awaitingHeader
  | .cmd14 => some .awaitingHeader
  | .cmd15 => some .awaitingHeader
  | .bad1 _ => some .awaitingHeader
  | .bad2 _ => some .awaitingHeader
  | .bad3 _ => some .awaitingHeader
  | .bad4 _ => some .awaitingHeader
  | .bad5 _ => some .awaitingHeader
  | .bad6 _ => some .awaitingHeader
  | .bad7 _ => some .awaitingHeader
  | .bad9 _ => some .awaitingHeader
  | .badA _ => some .awaitingHeader
  | .badB _ => some .awaitingHeader
  | .badC _ => some .awaitingHeader
  | .badD _ => some .awaitingHeader
  | .badE _ => some .awaitingHeader
  | .badF _ => some .awaitingHeader
  | .data _ => some .inPayload
  | .por => none
  | .dbTick _ => none
  | .pwmTick => none
  | .rxByte _ => none
  | .consume _ => none
  | .wdtFire => none
  | .animTick => none
  | .resetEnter => none

/-- The rows of format EVT with "external" true: the operations of 10_state.md R19 that a strobe starts. -/
def Instr.isExternal : Instr → Bool
  | .idle _ => false
  | .cmd0 => false
  | .cmd1 => false
  | .cmd2 => false
  | .cmd3 => false
  | .cmd4 => false
  | .cmd5 => false
  | .cmd6 => false
  | .cmd7 => false
  | .cmd8 => false
  | .cmd9 => false
  | .cmd10 => false
  | .cmd11 => false
  | .cmd12 => false
  | .cmd13 => false
  | .cmd14 => false
  | .cmd15 => false
  | .bad1 _ => false
  | .bad2 _ => false
  | .bad3 _ => false
  | .bad4 _ => false
  | .bad5 _ => false
  | .bad6 _ => false
  | .bad7 _ => false
  | .bad9 _ => false
  | .badA _ => false
  | .badB _ => false
  | .badC _ => false
  | .badD _ => false
  | .badE _ => false
  | .badF _ => false
  | .data _ => false
  | .por => true
  | .dbTick _ => true
  | .pwmTick => true
  | .rxByte _ => true
  | .consume _ => true
  | .wdtFire => true
  | .animTick => false
  | .resetEnter => false

/-- The instruction may be decoded in parser state `p` (30_encoding.md R69, R71). -/
def Instr.fits (p : ParserState) (i : Instr) : Bool :=
  match i.parserState with
  | none => true
  | some q => decide (q = p)

end Sys2Proof
end

