-- ==== Sys2Proof/Decode.lean ====
section
/-! DEFINITION. Decoding of inbound bytes (30_encoding.md R61, R62, R68, R69, R71) and of event words (R72), and the
encoder written from the same tables. -/

namespace Sys2Proof

/-- Bits 7:4 of a byte, the header's `class` (R61, R68). -/
def highNibble (b : Byte) : Nibble := b.extractLsb' 4 4

/-- Bits 3:0 of a byte, the header's `N` (R61, R68). -/
def lowNibble (b : Byte) : Nibble := b.extractLsb' 0 4

/-- Bits 11:8 of an event word, its kind (R72). -/
def eventKind (w : EventWord) : Nibble := w.extractLsb' 8 4

/-- Bits 7:0 of an event word, its operand (R72). -/
def eventOperand (w : EventWord) : Byte := w.extractLsb' 0 8

/-- Why an event word spells no event (R72). -/
inductive DecodeError where
  /-- Kinds `0x8`..`0xF` (R72, 93_implementation_defined.md U12). -/
  | unknownKind (kind : Nibble)
  /-- A non-zero bit in an operand position stated as 0 (R72, U12). -/
  | operandNotZero (kind : Nibble) (operand : Byte)
  deriving DecidableEq, Repr

/-- Class `0x8` (R69): one mnemonic for each payload count `N`; the last line is `N = 15`, the only value left. -/
def decodeCommand (n : Nibble) : Instr :=
  match n.toNat with
  | 0 => .cmd0
  | 1 => .cmd1
  | 2 => .cmd2
  | 3 => .cmd3
  | 4 => .cmd4
  | 5 => .cmd5
  | 6 => .cmd6
  | 7 => .cmd7
  | 8 => .cmd8
  | 9 => .cmd9
  | 10 => .cmd10
  | 11 => .cmd11
  | 12 => .cmd12
  | 13 => .cmd13
  | 14 => .cmd14
  | _ => .cmd15

/-- A byte received while awaiting a header (R69): its class selects; the last line is class `0xF`, the only value
left. -/
def decodeHeader (b : Byte) : Instr :=
  match (highNibble b).toNat with
  | 0 => .idle (lowNibble b)
  | 1 => .bad1 (lowNibble b)
  | 2 => .bad2 (lowNibble b)
  | 3 => .bad3 (lowNibble b)
  | 4 => .bad4 (lowNibble b)
  | 5 => .bad5 (lowNibble b)
  | 6 => .bad6 (lowNibble b)
  | 7 => .bad7 (lowNibble b)
  | 8 => decodeCommand (lowNibble b)
  | 9 => .bad9 (lowNibble b)
  | 10 => .badA (lowNibble b)
  | 11 => .badB (lowNibble b)
  | 12 => .badC (lowNibble b)
  | 13 => .badD (lowNibble b)
  | 14 => .badE (lowNibble b)
  | _ => .badF (lowNibble b)

/-- Decode of an inbound byte, "a function of `b` and of `rx_rem` only" (R69), total. -/
def decodeByte (p : ParserState) (b : Byte) : Instr :=
  match p with
  | .awaitingHeader => decodeHeader b
  | .inPayload => .data b

/-- An event word whose operand is stated as 0 (R72). -/
def operandZero (w : EventWord) (i : Instr) : Except DecodeError Instr :=
  if eventOperand w = 0x00#8 then .ok i else .error (.operandNotZero (eventKind w) (eventOperand w))

/-- An event word whose operand is a `BTN` vector under four zero bits (R72). -/
def operandBtn (w : EventWord) (mk : Btn → Instr) : Except DecodeError Instr :=
  if highNibble (eventOperand w) = 0x0#4 then .ok (mk (lowNibble (eventOperand w)))
  else .error (.operandNotZero (eventKind w) (eventOperand w))

/-- Decode of an event word (R72), total, ill-formed words rejected by name. -/
def decodeEvent (w : EventWord) : Except DecodeError Instr :=
  match (eventKind w).toNat with
  | 0 => operandZero w .por
  | 1 => operandBtn w .dbTick
  | 2 => operandZero w .pwmTick
  | 3 => .ok (.rxByte (eventOperand w))
  | 4 => operandBtn w .consume
  | 5 => operandZero w .wdtFire
  | 6 => operandZero w .animTick
  | 7 => operandZero w .resetEnter
  | _ => .error (.unknownKind (eventKind w))

/-- What is decoded: an inbound byte (formats HDR and PAY) or an event word (format EVT) (R60). -/
inductive Code where
  /-- An inbound byte. -/
  | byte (b : Byte)
  /-- An event word. -/
  | event (w : EventWord)
  deriving DecidableEq, Repr

/-- The whole decoder: bytes by the parser state, event words by their kind. -/
def decode (p : ParserState) : Code → Except DecodeError Instr
  | .byte b => .ok (decodeByte p b)
  | .event w => decodeEvent w

/-- The encoding of each row of the table, field by field (R61, R62, R72). -/
def encode : Instr → Code
  | .idle n => .byte (0x0#4 ++ n)
  | .cmd0 => .byte 0x80#8
  | .cmd1 => .byte 0x81#8
  | .cmd2 => .byte 0x82#8
  | .cmd3 => .byte 0x83#8
  | .cmd4 => .byte 0x84#8
  | .cmd5 => .byte 0x85#8
  | .cmd6 => .byte 0x86#8
  | .cmd7 => .byte 0x87#8
  | .cmd8 => .byte 0x88#8
  | .cmd9 => .byte 0x89#8
  | .cmd10 => .byte 0x8A#8
  | .cmd11 => .byte 0x8B#8
  | .cmd12 => .byte 0x8C#8
  | .cmd13 => .byte 0x8D#8
  | .cmd14 => .byte 0x8E#8
  | .cmd15 => .byte 0x8F#8
  | .bad1 n => .byte (0x1#4 ++ n)
  | .bad2 n => .byte (0x2#4 ++ n)
  | .bad3 n => .byte (0x3#4 ++ n)
  | .bad4 n => .byte (0x4#4 ++ n)
  | .bad5 n => .byte (0x5#4 ++ n)
  | .bad6 n => .byte (0x6#4 ++ n)
  | .bad7 n => .byte (0x7#4 ++ n)
  | .bad9 n => .byte (0x9#4 ++ n)
  | .badA n => .byte (0xA#4 ++ n)
  | .badB n => .byte (0xB#4 ++ n)
  | .badC n => .byte (0xC#4 ++ n)
  | .badD n => .byte (0xD#4 ++ n)
  | .badE n => .byte (0xE#4 ++ n)
  | .badF n => .byte (0xF#4 ++ n)
  | .data b => .byte b
  | .por => .event 0x000#12
  | .dbTick s => .event (0x1#4 ++ (0x0#4 ++ s))
  | .pwmTick => .event 0x200#12
  | .rxByte b => .event (0x3#4 ++ b)
  | .consume m => .event (0x4#4 ++ (0x0#4 ++ m))
  | .wdtFire => .event 0x500#12
  | .animTick => .event 0x600#12
  | .resetEnter => .event 0x700#12

/-- The event word that delivers what is encoded: an inbound byte arrives as an `RX_BYTE` event (R72, kind `0x3`). -/
def Code.eventWord : Code → EventWord
  | .byte b => 0x3#4 ++ b
  | .event w => w

/-- The bits of a table row's instruction as the model reads them: a row of at most 8 bits is an inbound byte, a wider
one an event word; a number the format has no bits for is none. -/
def tableCode (nbits w : Nat) : Option Code :=
  if nbits ≤ 8 then (if w < 2 ^ 8 then some (.byte (BitVec.ofNat 8 w)) else none)
  else (if w < 2 ^ 12 then some (.event (BitVec.ofNat 12 w)) else none)

/-- The instruction the decoder reads from a table row's bits, in the parser state after reset (log entry 3). -/
def decodeTableWord (nbits w : Nat) : Option Instr :=
  match tableCode nbits w with
  | none => none
  | some c => (decode .awaitingHeader c).toOption

end Sys2Proof
end

