-- ==== Sys2Proof/Machine/State.lean ====
section
/-! DEFINITION. The state of the block: every register of 10_state.md R11, and the model's own `events`, `out` and
`freeCount` (log entries 1, 2, 7). -/

namespace Sys2Proof.Machine

/-- `rs_state` (10_state.md R11; 60_exceptions.md R156). -/
inductive RsState where
  /-- 0. -/
  | normal
  /-- 1. -/
  | resetting
  deriving DecidableEq, Repr

/-- The index of a command buffer, 0 or 1 (20_memory.md R40); `act` is one. -/
inductive Slot where
  | zero
  | one
  deriving DecidableEq, Repr

/-- The index of a Color Phase, 0 or 1 (10_state.md R13); `phase` is one. -/
inductive PhaseIx where
  | zero
  | one
  deriving DecidableEq, Repr

/-- The colour channels: 0 red, 1 green, 2 blue (00_scope.md R4, `NCHAN`). -/
inductive Channel where
  | red
  | green
  | blue
  deriving DecidableEq, Repr

/-- The fields of a Color Phase, in the order of the record (10_state.md R13; 30_encoding.md R63). -/
inductive Field where
  | red
  | green
  | blue
  | slew
  | time
  deriving DecidableEq, Repr

/-- One byte for each channel: the shape of `cur` and of `duty`. -/
structure Rgb where
  red : Byte
  green : Byte
  blue : Byte
  deriving DecidableEq, Repr

/-- An address of the command-buffer space: slot 0..1 and index 0..9 (20_memory.md R40, R44). No other address can be
formed. -/
structure BufAddr where
  slot : Slot
  index : Fin 10
  deriving DecidableEq, Repr

/-- The command-buffer space as cells: address strictly rising, no cell that holds what an unlisted address reads as
(`Memory.wf` in Machine/Ops.lean). -/
abbrev Memory := List Host.Cell

/-- The outputs of 10_state.md R19 that are valid only in the step that raises them (log entry 2). -/
structure Outputs where
  /-- `tx_load`: raised in the step of an `rx_valid`. -/
  txLoad : Bool
  /-- `consume_resp`: valid in the step of a `consume_req`. -/
  consumeResp : Option Btn
  deriving DecidableEq, Repr

/-- Nothing raised. -/
def Outputs.quiet : Outputs := { txLoad := false, consumeResp := none }

/-- The state: the registers of 10_state.md R11, then the model's own fields. -/
@[ext]
structure State where
  /-- `db_state`: debounced buttons. -/
  dbState : Btn
  /-- `db_ct0`: bit 0 of each button's count. -/
  dbCt0 : Btn
  /-- `db_ct1`: bit 1 of each button's count. -/
  dbCt1 : Btn
  /-- `press_edge`: one-shot press edges. -/
  pressEdge : Btn
  /-- `tick_cnt`: debounce ticks since the last animation tick. -/
  tickCnt : BitVec 2
  /-- `rx_rem`: payload bytes still expected; 0 means awaiting a header. -/
  rxRem : Nibble
  /-- `rx_idx`: index of the next payload byte. -/
  rxIdx : Nibble
  /-- `cmd_ready`: the inactive buffer holds a command to be swapped in. -/
  cmdReady : Bool
  /-- `tx_data`: the status byte loaded for transmission. -/
  txData : Byte
  /-- `buf[0]` and `buf[1]`: the command-buffer space. -/
  buf : Memory
  /-- `act`: the active buffer. -/
  act : Slot
  /-- `phase`: the active phase. -/
  phase : PhaseIx
  /-- `pt`: animation ticks elapsed in the active phase. -/
  pt : Byte
  /-- `cur[0..2]`: internal channel values. -/
  cur : Rgb
  /-- `duty[0..2]`: linear duty values. -/
  duty : Rgb
  /-- `pwm_index`: PWM step counter. -/
  pwmIndex : Byte
  /-- `port_data`: bit 0 red, bit 1 green, bit 2 blue, bit 3 reset line A, bit 4 reset line B (30_encoding.md R67). -/
  portData : BitVec 5
  /-- `rs_state`: NORMAL or RESETTING. -/
  rsState : RsState
  /-- `rst_oe`: the two reset lines are outputs. -/
  rstOe : Bool
  /-- `wdt_armed`: the watchdog has been armed. -/
  wdtArmed : Bool
  /-- MODEL'S OWN (log entry 1): event words still to be delivered, the next one first. -/
  events : List EventWord
  /-- MODEL'S OWN (log entry 2): what the latest step raised. -/
  out : Outputs
  /-- MODEL'S OWN (log entry 7): how many free values have been drawn. -/
  freeCount : Nat
  deriving DecidableEq, Repr

/-- Reasons for a fault. There are none: "No operation of the block can fault, trap, hang or refuse its input"
(60_exceptions.md R151), so this type has no constructor and no step ends in a fault. -/
inductive Fault
  deriving DecidableEq, Repr

/-- Reasons for a refusal. -/
inductive Refusal where
  /-- Raised by exec for an instruction without a meaning. No arm raises it. Safe. -/
  | notModelled (mnemonic : String)
  /-- Raised by step for an event word that spells no event: "a trace containing one is ill-formed and a model refuses
  it" (30_encoding.md R72, 93_implementation_defined.md U12). Safe. -/
  | illFormedEvent (why : DecodeError)
  /-- Raised by `WDT_FIRE` while `wdt_armed = 0`: "the event does not occur and a trace that contains it there is
  ill-formed" (44_reset_sequencer.md R144, U5). Safe. -/
  | watchdogNotArmed
  deriving DecidableEq, Repr

/-- The state right after `POR` (70_reset_and_hazards.md R170, 10_state.md R11), with no event waiting. -/
def State.reset : State where
  dbState := 0b0000#4
  dbCt0 := 0b0000#4
  dbCt1 := 0b0000#4
  pressEdge := 0b0000#4
  tickCnt := 0#2
  rxRem := 0#4
  rxIdx := 0#4
  cmdReady := false
  txData := 0x00#8
  buf := []
  act := .zero
  phase := .zero
  pt := 0#8
  cur := { red := 0#8, green := 0#8, blue := 0#8 }
  duty := { red := 0#8, green := 0#8, blue := 0#8 }
  pwmIndex := 0#8
  portData := 0b00000#5
  rsState := .normal
  rstOe := false
  wdtArmed := false
  events := []
  out := Outputs.quiet
  freeCount := 0

end Sys2Proof.Machine
end

