-- ==== Sys2Proof/Machine/Ops.lean ====
section
/-! DEFINITION. Named operations over the command-buffer space, the restart, the one error, the outputs and the
delivery of events. -/

namespace Sys2Proof.Machine

/-! ### The command-buffer space (20_memory.md R40 to R45) -/

/-- What an address with no cell reads as: the reset content of both buffers (70_reset_and_hazards.md R170). -/
def Memory.unlisted : Byte := 0x00#8

/-- The bytes of the space: two slots of ten (R40). -/
def Memory.size : Nat := 20

/-- The canonical form: addresses strictly rising and inside the space, no cell that an unlisted address reads as. -/
abbrev Memory.wf (m : Memory) : Prop :=
  m.Pairwise (fun x y => x.1 < y.1) ∧ ∀ c ∈ m, c.1 < Memory.size ∧ c.2 ≠ Memory.unlisted

/-- Read of one byte. -/
def Memory.read : Memory → Nat → Byte
  | [], _ => Memory.unlisted
  | c :: m, a => if c.1 = a then c.2 else Memory.read m a

/-- The cells with the one at `a` removed. -/
def Memory.erase : Memory → Nat → Memory
  | [], _ => []
  | c :: m, a => if c.1 = a then Memory.erase m a else c :: Memory.erase m a

/-- The cells with `(a, b)` put in its place; `a` holds no cell. -/
def Memory.insert : Memory → Nat → Byte → Memory
  | [], a, b => [(a, b)]
  | c :: m, a, b => if a < c.1 then (a, b) :: c :: m else c :: Memory.insert m a b

/-- Write of one byte, keeping the canonical form. -/
def Memory.write (m : Memory) (a : Nat) (b : Byte) : Memory :=
  if b = Memory.unlisted then m.erase a else (m.erase a).insert a b

/-- One-byte writes at `a`, `a + 1`, and so on (R45: ten 1-byte stores inside one operation). -/
def Memory.writeBytes (m : Memory) (a : Nat) : List Byte → Memory
  | [] => m
  | b :: bs => Memory.writeBytes (m.write a b) (a + 1) bs

/-- The other slot, `1 - s`. -/
def Slot.other : Slot → Slot
  | .zero => .one
  | .one => .zero

/-- The cell of a slot's byte 0 (log entry 10: the numbering of cells is the model's). -/
def Slot.base : Slot → Nat
  | .zero => 0
  | .one => 10

/-- The cell of an address. -/
def BufAddr.cell (a : BufAddr) : Nat := a.slot.base + a.index.val

/-- `MemRead((s, k), 1)` (00_scope.md R6). -/
def State.readBuf (s : State) (a : BufAddr) : Byte := s.buf.read a.cell

/-- `MemWrite((s, k), 1, v)` (00_scope.md R6). -/
def State.writeBuf (s : State) (a : BufAddr) (v : Byte) : State := { s with buf := s.buf.write a.cell v }

/-- All ten bytes of a slot, from byte 0 on (R45). -/
def State.fillSlot (s : State) (k : Slot) (bytes : List Byte) : State :=
  { s with buf := s.buf.writeBytes k.base bytes }

/-! ### The channels -/

/-- The byte of one channel. -/
def Rgb.get (v : Rgb) : Channel → Byte
  | .red => v.red
  | .green => v.green
  | .blue => v.blue

/-- The three bytes given by channel. -/
def Rgb.of (f : Channel → Byte) : Rgb := { red := f .red, green := f .green, blue := f .blue }

/-! ### Restart and error -/

/-- Every register takes its reset value (70_reset_and_hazards.md R170; 44_reset_sequencer.md R144). The events still to
come are the environment's and stay (log entry 4), as does the model's count of free values. -/
def restart (s : State) : State := { State.reset with events := s.events, freeCount := s.freeCount }

/-- `ProtocolError()` (41_command_receiver.md R95; 60_exceptions.md R150, R154): the one error of the block. "No state is
saved, no mode changes and control goes nowhere": the parser awaits a header again. -/
def protocolError (s : State) : State := { s with rxIdx := 0#4, rxRem := 0#4 }

/-! ### Outputs (10_state.md R19) -/

/-- `led[2:0]`. -/
def State.led (s : State) : BitVec 3 := s.portData.extractLsb' 0 3

/-- `rst_line_data[1:0]`: bit 0 reset line A, bit 1 reset line B. -/
def State.rstLineData (s : State) : BitVec 2 := s.portData.extractLsb' 3 2

/-- The two reset line pins: driven with `rst_line_data` when `rst_oe = 1`, not driven otherwise (R19). -/
def State.rstLinePins (s : State) : Option (BitVec 2) := if s.rstOe then some s.rstLineData else none

/-- `wdt_arm`. -/
def State.wdtArm (s : State) : Bool := s.wdtArmed

/-! ### Delivery of events (30_encoding.md R72; log entries 1 to 3) -/

/-- What the next step performs. -/
inductive Delivery where
  /-- No event, or an annotation taken off: no operation, and no output is raised. -/
  | idle (s : State)
  /-- The first event word, taken off, spells the operation `i`, which a strobe of 10_state.md R19 starts. -/
  | perform (i : Instr) (s : State)
  /-- The first event word spells no event. -/
  | illFormed (why : DecodeError)
  deriving DecidableEq, Repr

/-- Take the next event word and decode it. The internal operations `ANIM_TICK` and `RESET_ENTER` "are never inputs and
appear in a trace only as annotations of where a `DB_TICK` performed them" (R72; 00_scope.md R5): their words are taken off
and perform nothing (log entry 6). -/
def deliver (s : State) : Delivery :=
  match s.events with
  | [] => .idle { s with out := Outputs.quiet }
  | w :: rest =>
    match decodeEvent w with
    | .ok i =>
      if i.isExternal then .perform i { s with events := rest, out := Outputs.quiet }
      else .idle { s with events := rest, out := Outputs.quiet }
    | .error e => .illFormed e

/-- `s` with the event word `w` before all others. -/
def State.withEvent (s : State) (w : EventWord) : State := { s with events := w :: s.events }

/-- `s` made ready so that its next `DB_TICK` performs `ANIM_TICK`, with that tick before all other events (40_debounce.md
R83): the sample agrees with the debounced state, and the tick is a third one. -/
def State.withAnimTick (s : State) : State :=
  { s with tickCnt := 2#2 }.withEvent (encode (.dbTick s.dbState)).eventWord

/-- `s` made ready so that its next `DB_TICK` performs `RESET_ENTER`, with that tick before all other events (40_debounce.md
R83, 44_reset_sequencer.md R145). -/
def State.withResetEnter (s : State) : State :=
  { s with dbState := Config.resetCombo, rsState := .normal, tickCnt := 0#2 }.withEvent
    (encode (.dbTick Config.resetCombo)).eventWord

/-- `s` with a table row's bits before all other events: an inbound byte as its `RX_BYTE` event, an event word as it
stands; an internal operation as the debounce tick that performs it (log entry 3). -/
def State.withTableWord (s : State) (nbits w : Nat) : State :=
  match tableCode nbits w with
  | some c =>
    if c = encode .animTick then s.withAnimTick
    else if c = encode .resetEnter then s.withResetEnter
    else s.withEvent c.eventWord
  | none => s.withEvent 0xFFF#12

end Sys2Proof.Machine
end

