-- ==== Sys2Proof/Machine/Operands.lean ====
section
/-! DEFINITION. The operand forms: the parser state, the two address forms of 00_scope.md R7, button vectors bit by
bit. -/

namespace Sys2Proof.Machine

/-- The parser state of 41_command_receiver.md R90: awaiting a header exactly when `rx_rem = 0`. -/
def State.parserState (s : State) : ParserState :=
  if s.rxRem = 0#4 then .awaitingHeader else .inPayload

/-- The inactive buffer, `1 - act` (10_state.md R11). -/
def State.inactive (s : State) : Slot := s.act.other

/-- The address of a payload byte, `(1 - act, rx_idx)`, while `rx_idx < 10` (41_command_receiver.md R96); none beyond
(20_memory.md R44). -/
def State.payloadAddr (s : State) : Option BufAddr :=
  if h : s.rxIdx.toNat < 10 then some { slot := s.inactive, index := ⟨s.rxIdx.toNat, h⟩ } else none

/-- Phase index as a number. -/
def PhaseIx.toNat : PhaseIx → Nat
  | .zero => 0
  | .one => 1

/-- The other phase, `1 - phase`. -/
def PhaseIx.other : PhaseIx → PhaseIx
  | .zero => .one
  | .one => .zero

/-- The place of a field in a Color Phase (10_state.md R13). -/
def Field.offset : Field → Nat
  | .red => 0
  | .green => 1
  | .blue => 2
  | .slew => 3
  | .time => 4

/-- The target field of a channel. -/
def Channel.field : Channel → Field
  | .red => .red
  | .green => .green
  | .blue => .blue

/-- Index `5p + field` of a field of phase `p` (10_state.md R13; 20_memory.md R41). -/
def fieldIndex (p : PhaseIx) (f : Field) : Fin 10 :=
  ⟨Config.phaseLen * p.toNat + f.offset, by cases p <;> cases f <;> decide⟩

/-- The address `(act, 5*phase + field)` (42_animation.md R110). -/
def State.phaseAddr (s : State) (f : Field) : BufAddr := { slot := s.act, index := fieldIndex s.phase f }

/-- A field of the active phase of the active buffer. -/
def State.phaseField (s : State) (f : Field) : Byte := s.readBuf (s.phaseAddr f)

/-- The `BTN` vector with bit `i` given by `f i` (30_encoding.md R65). -/
def btnOf (f : Fin 4 → Bool) : Btn :=
  BitVec.ofBool (f 3) ++ BitVec.ofBool (f 2) ++ BitVec.ofBool (f 1) ++ BitVec.ofBool (f 0)

end Sys2Proof.Machine
end

