-- ==== Sys2Proof/Machine/Flags.lean ====
section
/-! DEFINITION. The flags of 10_state.md R16: what sets and what clears `cmd_ready`, `press_edge`, `rst_oe` and
`wdt_armed`. The restart (Machine/Ops.lean) clears them all. -/

namespace Sys2Proof.Machine

/-- Completion of a payload (41_command_receiver.md R97): `cmd_ready` set, the byte index back to 0. -/
def completeCommand (s : State) : State := { s with cmdReady := true, rxIdx := 0#4 }

/-- `RESET_ENTER`'s flags (44_reset_sequencer.md R141): `cmd_ready`, `rst_oe` and `wdt_armed` set. -/
def raiseResetFlags (s : State) : State := { s with cmdReady := true, rstOe := true, wdtArmed := true }

/-- The swap's flag (42_animation.md R111): `cmd_ready` cleared. -/
def clearReady (s : State) : State := { s with cmdReady := false }

/-- A press edge after a change of the debounced bit from `before` to `after` (40_debounce.md R82): set by a change from
0 to 1, never cleared here. -/
def pressEdgeAfter (edge before after : Bool) : Bool := edge || (!before && after)

/-- The edges a `CONSUME` with `mask` returns (40_debounce.md R85). -/
def State.matchedEdges (s : State) (mask : Btn) : Btn := s.pressEdge &&& mask

/-- The edges a `CONSUME` clears (40_debounce.md R85). -/
def clearEdges (matched : Btn) (s : State) : State := { s with pressEdge := s.pressEdge &&& ~~~matched }

end Sys2Proof.Machine
end

