-- ==== Sys2Proof/Machine/Animation.lean ====
section
/-! DEFINITION. The animation datapath: `ANIM_TICK` with `SWAP`, `RAMP`, `LIN` and `PHASE_STEP` (42_animation.md R110 to
R120). -/

namespace Sys2Proof.Machine

/-- `SWAP()` (R111): the inactive buffer becomes active, the other one is zeroed, phase and elapsed ticks go to 0,
`cmd_ready` is cleared; `cur` and `duty` stay. -/
def swap (s : State) : State :=
  let t := s.fillSlot s.act (List.replicate Config.bufLen 0x00#8)
  clearReady { t with act := s.act.other, phase := .zero, pt := 0#8 }

/-- Step 1 of `ANIM_TICK` (R110, R111): the swap if a command is ready. -/
def swapIfReady (s : State) : State := if s.cmdReady then swap s else s

/-- The effective slew (R112): 0 means unlimited. -/
def effectiveSlew (slew : Byte) : Byte := if slew = 0#8 then Config.slewUnlimited else slew

/-- `RAMP(cur, tgt, es)` (R113): towards the target by at most `es`, never past it. Computed over the integers; the result
lies between `cur` and `tgt` (R118). -/
def ramp (cur tgt es : Byte) : Byte :=
  if cur.toNat < tgt.toNat then BitVec.ofNat 8 (cur.toNat + min es.toNat (tgt.toNat - cur.toNat))
  else if tgt.toNat < cur.toNat then BitVec.ofNat 8 (cur.toNat - min es.toNat (cur.toNat - tgt.toNat))
  else cur

/-- `LIN(v)` (R114): the three-segment colour curve. Computed over the integers; no result exceeds 254 (R116, R118). -/
def lin (v : Byte) : Byte :=
  if v.toNat < Config.lutBp1 then BitVec.ofNat 8 (v.toNat / 2)
  else if v.toNat < Config.lutBp2 then BitVec.ofNat 8 (64 + (v.toNat - 128))
  else BitVec.ofNat 8 (128 + (v.toNat - 192) * 2)

/-- Steps 2 and 3 (R112, R113): every channel towards its target in the active phase. -/
def rampChannels (s : State) : State :=
  { s with cur := Rgb.of fun c => ramp (s.cur.get c) (s.phaseField c.field) (effectiveSlew (s.phaseField .slew)) }

/-- Step 4 (R114, R115): the linear duty values of the new `cur`, in every `ANIM_TICK`. -/
def publishDuty (s : State) : State := { s with duty := Rgb.of fun c => lin (s.cur.get c) }

/-- `PHASE_STEP(time)` (R117). The increment fits because `pt < time` (R118); in a state no run reaches, a free value (log
entry 7). -/
def phaseStep (time : Byte) (s : State) : State :=
  if time = 0#8 then s
  else if s.pt.toNat + 1 = time.toNat then { s with pt := 0#8, phase := s.phase.other }
  else if s.pt.toNat + 1 < 2 ^ 8 then { s with pt := s.pt + 1#8 }
  else { s with pt := Config.ptBeyond s.freeCount, freeCount := s.freeCount + 1 }

/-- `ANIM_TICK()` (R110): swap, slew, ramp, duty, phase step, in this order; the `time` used is that of the phase after the
swap. -/
def animTick (s : State) : State :=
  let t := swapIfReady s
  phaseStep (t.phaseField .time) (publishDuty (rampChannels t))

/-- `ANIM_TICK`, performed inside every third `DB_TICK` (R110, 40_debounce.md R83): no step performs it by itself. -/
def execAnimTick (s : State) : Host.Outcome State Fault Refusal := .next (animTick s)

end Sys2Proof.Machine
end

