-- ==== Sys2Proof/Machine/System.lean ====
section
/-! DEFINITION. The reset-sequence controller and the restarts: `RESET_ENTER`, `WDT_FIRE`, `POR` (44_reset_sequencer.md
R140 to R146, 70_reset_and_hazards.md R170). -/

namespace Sys2Proof.Machine

/-- The flash pattern (44_reset_sequencer.md R142): white, then black, unlimited slew, short times. -/
def flashPattern : List Byte :=
  [255#8, 255#8, 255#8, 0#8, Config.flashTime0, 0#8, 0#8, 0#8, 0#8, Config.flashTime1]

/-- `RESET_ENTER()` (R141): these writes and no others. -/
def resetEnter (s : State) : State :=
  raiseResetFlags ({ s with rsState := .resetting }.fillSlot s.inactive flashPattern)

/-- `RESET_ENTER`, performed inside a `DB_TICK` (R141, R145): no step performs it by itself. -/
def execResetEnter (s : State) : Host.Outcome State Fault Refusal := .next (resetEnter s)

/-- `WDT_FIRE()` (R144): every register to its reset value; enabled only while `wdt_armed = 1`, and refused otherwise (U5,
vector V32). -/
def execWdtFire (s : State) : Host.Outcome State Fault Refusal :=
  if s.wdtArmed then .next (restart s) else .refused .watchdogNotArmed

/-- `POR()` (70_reset_and_hazards.md R170). -/
def execPor (s : State) : Host.Outcome State Fault Refusal := .next (restart s)

end Sys2Proof.Machine
end

