-- ==== Sys2Proof/Machine/Debounce.lean ====
section
/-! DEFINITION. The debounce sampler: `DB_TICK` with `DB_UPDATE`, the reset check and the tick divider, and `CONSUME`
(40_debounce.md R80 to R87). -/

namespace Sys2Proof.Machine

/-- What `DB_UPDATE` keeps for one button: its debounced bit, the two bits of its count (10_state.md R14) and its press
edge. -/
structure Lane where
  state : Bool
  ct0 : Bool
  ct1 : Bool
  edge : Bool
  deriving DecidableEq, Repr

/-- `cnt(i) = {db_ct1[i], db_ct0[i]}` (10_state.md R14). -/
def Lane.count (l : Lane) : Nat := 2 * l.ct1.toNat + l.ct0.toNat

/-- The lane with its count set to `n`, a 2-bit number. -/
def Lane.withCount (l : Lane) (n : Nat) : Lane := { l with ct0 := n.testBit 0, ct1 := n.testBit 1 }

/-- `DB_UPDATE` for one button with sample bit `sample` (R81, R82). -/
def Lane.update (sample : Bool) (l : Lane) : Lane :=
  if sample = l.state then l.withCount 0
  else if l.count + 1 < Config.debounceN then l.withCount (l.count + 1)
  else { l.withCount 0 with state := sample, edge := pressEdgeAfter l.edge l.state sample }

/-- Button `i`'s bits of the four debounce registers. -/
def State.lane (s : State) (i : Fin 4) : Lane where
  state := s.dbState.getLsbD i.val
  ct0 := s.dbCt0.getLsbD i.val
  ct1 := s.dbCt1.getLsbD i.val
  edge := s.pressEdge.getLsbD i.val

/-- `DB_UPDATE(s)` (R81): every button independently, from the same sample. -/
def dbUpdate (sample : Btn) (s : State) : State :=
  let after : Fin 4 → Lane := fun i => (s.lane i).update (sample.getLsbD i.val)
  { s with
    dbState := btnOf fun i => (after i).state
    dbCt0 := btnOf fun i => (after i).ct0
    dbCt1 := btnOf fun i => (after i).ct1
    pressEdge := btnOf fun i => (after i).edge }

/-- The reset check (R83, 44_reset_sequencer.md R145): in NORMAL, on all four debounced bits. -/
def resetCheck (s : State) : State :=
  if s.rsState = .normal ∧ s.dbState = Config.resetCombo then resetEnter s else s

/-- The tick divider (R83): every third debounce tick performs an animation tick. -/
def tickDivide (s : State) : State :=
  if s.tickCnt.toNat + 1 < Config.animDiv then { s with tickCnt := s.tickCnt + 1#2 }
  else animTick { s with tickCnt := 0#2 }

/-- `DB_TICK(s)` (R83): update, reset check, tick divider, in this order and as one step. -/
def execDbTick (sample : Btn) (s : State) : Host.Outcome State Fault Refusal :=
  .next (tickDivide (resetCheck (dbUpdate sample s)))

/-- `CONSUME(mask) -> matched` (R85): the selected edges are returned on `consume_resp` and cleared. -/
def execConsume (mask : Btn) (s : State) : Host.Outcome State Fault Refusal :=
  .next { clearEdges (s.matchedEdges mask) s with out := { s.out with consumeResp := some (s.matchedEdges mask) } }

end Sys2Proof.Machine
end

