-- ==== Sys2Proof/Machine/Pwm.lean ====
section
/-! DEFINITION. The PWM duty-cycle generator: `PWM_TICK` (43_pwm.md R130 to R133). -/

namespace Sys2Proof.Machine

/-- The colour bit of channel `c` at the present step (R131): on while `pwm_index < duty`. -/
def State.colourBit (s : State) (c : Channel) : Bool := decide (s.pwmIndex.toNat < (s.duty.get c).toNat)

/-- The port value `{0, 0, b, g, r}` (R131, R132; format PORT, 30_encoding.md R67). -/
def State.portValue (s : State) : BitVec 5 :=
  0b00#2 ++ BitVec.ofBool (s.colourBit .blue) ++ BitVec.ofBool (s.colourBit .green) ++ BitVec.ofBool (s.colourBit .red)

/-- `PWM_TICK()` (R131): the port is written from the counter value before the step, then the counter goes on modulo
`PWM_STEPS`. -/
def execPwmTick (s : State) : Host.Outcome State Fault Refusal :=
  .next { s with portData := s.portValue, pwmIndex := BitVec.ofNat 8 ((s.pwmIndex.toNat + 1) % Config.pwmSteps) }

end Sys2Proof.Machine
end

