-- ==== Sys2Proof/Machine/Receiver.lean ====
section
/-! DEFINITION. The command byte assembler: `RX_BYTE` and the inbound byte classes (41_command_receiver.md R90 to
R102). -/

namespace Sys2Proof.Machine

/-- The status load of R102: `tx_data <- zext_8(db_state)` (format STAT, 30_encoding.md R64, R66), with the `tx_load`
strobe (10_state.md R19). -/
def loadStatus (s : State) : State :=
  { s with txData := s.dbState.setWidth 8, out := { s.out with txLoad := true } }

/-- `HDR_CMD(N)` (R92, R93). -/
def headerCommand (n : Nibble) (s : State) : State := { s with rxIdx := 0#4, rxRem := n }

/-- `HDR_IDLE()` (R94). -/
def headerIdle (s : State) : State := { s with rxIdx := 0#4, rxRem := 0#4 }

/-- The header part of R91: the class of `b` selects rules R92 to R95. -/
def receiveHeader (b : Byte) (s : State) : State :=
  if highNibble b = Config.hdrCmd then headerCommand (lowNibble b) s
  else if highNibble b = Config.hdrIdle then headerIdle s
  else protocolError s

/-- The store of R96: at `(1 - act, rx_idx)` while `rx_idx < 10`, nowhere otherwise (R98). -/
def storePayload (b : Byte) (s : State) : State :=
  match s.payloadAddr with
  | some a => s.writeBuf a b
  | none => s

/-- `rx_idx <- rx_idx + 1`, "at most 15, fits u4" (R96); in a state no run reaches, a free value (log entry 7). -/
def advanceIndex (s : State) : State :=
  if s.rxIdx.toNat + 1 < 2 ^ 4 then { s with rxIdx := s.rxIdx + 1#4 }
  else { s with rxIdx := Config.rxIdxBeyond s.freeCount, freeCount := s.freeCount + 1 }

/-- `DATA(b)` (R96, R97, R98), without the status load. -/
def receivePayload (b : Byte) (s : State) : State :=
  let t := storePayload b s
  if s.rxRem - 1#4 = 0#4 then completeCommand { t with rxRem := 0#4 }
  else advanceIndex { t with rxRem := s.rxRem - 1#4 }

/-- `RX_BYTE` as far as it is common to all bytes (R91): the status load, then the header effect `hdr` of byte `b`
while awaiting a header, and `DATA` while in payload, where every byte value is data (30_encoding.md R62; log entry
5). -/
def receive (b : Byte) (hdr : State → State) (s : State) : State :=
  match s.parserState with
  | .awaitingHeader => hdr (loadStatus s)
  | .inPayload => receivePayload b (loadStatus s)

/-- `RX_BYTE(b)` (R91). -/
def execRxByte (b : Byte) (s : State) : Host.Outcome State Fault Refusal := .next (receive b (receiveHeader b) s)

/-- `DATA`: a payload byte (R96 to R98); the byte is a header while a header is awaited (30_encoding.md R69; log
entry 5). -/
def execData (b : Byte) (s : State) : Host.Outcome State Fault Refusal := .next (receive b (receiveHeader b) s)

/-- `IDLE`: apart from the status load nothing changes (R94). -/
def execIdle (n : Nibble) (s : State) : Host.Outcome State Fault Refusal := .next (receive (0x0#4 ++ n) headerIdle s)

/-- `CMD0`: no payload follows and no flag is raised (R93). -/
def execCmd0 (s : State) : Host.Outcome State Fault Refusal := .next (receive 0x80#8 (headerCommand 0#4) s)

/-- `CMD1`: 1 payload bytes follow (R92, R99). -/
def execCmd1 (s : State) : Host.Outcome State Fault Refusal := .next (receive 0x81#8 (headerCommand 1#4) s)

/-- `CMD2`: 2 payload bytes follow (R92, R99). -/
def execCmd2 (s : State) : Host.Outcome State Fault Refusal := .next (receive 0x82#8 (headerCommand 2#4) s)

/-- `CMD3`: 3 payload bytes follow (R92, R99). -/
def execCmd3 (s : State) : Host.Outcome State Fault Refusal := .next (receive 0x83#8 (headerCommand 3#4) s)

/-- `CMD4`: 4 payload bytes follow (R92, R99). -/
def execCmd4 (s : State) : Host.Outcome State Fault Refusal := .next (receive 0x84#8 (headerCommand 4#4) s)

/-- `CMD5`: 5 payload bytes follow (R92, R99). -/
def execCmd5 (s : State) : Host.Outcome State Fault Refusal := .next (receive 0x85#8 (headerCommand 5#4) s)

/-- `CMD6`: 6 payload bytes follow (R92, R99). -/
def execCmd6 (s : State) : Host.Outcome State Fault Refusal := .next (receive 0x86#8 (headerCommand 6#4) s)

/-- `CMD7`: 7 payload bytes follow (R92, R99). -/
def execCmd7 (s : State) : Host.Outcome State Fault Refusal := .next (receive 0x87#8 (headerCommand 7#4) s)

/-- `CMD8`: 8 payload bytes follow (R92, R99). -/
def execCmd8 (s : State) : Host.Outcome State Fault Refusal := .next (receive 0x88#8 (headerCommand 8#4) s)

/-- `CMD9`: 9 payload bytes follow (R92, R99). -/
def execCmd9 (s : State) : Host.Outcome State Fault Refusal := .next (receive 0x89#8 (headerCommand 9#4) s)

/-- `CMD10`: 10 payload bytes follow (R92, R100). -/
def execCmd10 (s : State) : Host.Outcome State Fault Refusal := .next (receive 0x8A#8 (headerCommand 10#4) s)

/-- `CMD11`: 11 payload bytes follow (R92, R98). -/
def execCmd11 (s : State) : Host.Outcome State Fault Refusal := .next (receive 0x8B#8 (headerCommand 11#4) s)

/-- `CMD12`: 12 payload bytes follow (R92, R98). -/
def execCmd12 (s : State) : Host.Outcome State Fault Refusal := .next (receive 0x8C#8 (headerCommand 12#4) s)

/-- `CMD13`: 13 payload bytes follow (R92, R98). -/
def execCmd13 (s : State) : Host.Outcome State Fault Refusal := .next (receive 0x8D#8 (headerCommand 13#4) s)

/-- `CMD14`: 14 payload bytes follow (R92, R98). -/
def execCmd14 (s : State) : Host.Outcome State Fault Refusal := .next (receive 0x8E#8 (headerCommand 14#4) s)

/-- `CMD15`: 15 payload bytes follow (R92, R98). -/
def execCmd15 (s : State) : Host.Outcome State Fault Refusal := .next (receive 0x8F#8 (headerCommand 15#4) s)

/-- `BAD1`: the silent parser reset (R95). -/
def execBad1 (n : Nibble) (s : State) : Host.Outcome State Fault Refusal := .next (receive (0x1#4 ++ n) protocolError s)

/-- `BAD2`: the silent parser reset (R95). -/
def execBad2 (n : Nibble) (s : State) : Host.Outcome State Fault Refusal := .next (receive (0x2#4 ++ n) protocolError s)

/-- `BAD3`: the silent parser reset (R95). -/
def execBad3 (n : Nibble) (s : State) : Host.Outcome State Fault Refusal := .next (receive (0x3#4 ++ n) protocolError s)

/-- `BAD4`: the silent parser reset (R95). -/
def execBad4 (n : Nibble) (s : State) : Host.Outcome State Fault Refusal := .next (receive (0x4#4 ++ n) protocolError s)

/-- `BAD5`: the silent parser reset (R95). -/
def execBad5 (n : Nibble) (s : State) : Host.Outcome State Fault Refusal := .next (receive (0x5#4 ++ n) protocolError s)

/-- `BAD6`: the silent parser reset (R95). -/
def execBad6 (n : Nibble) (s : State) : Host.Outcome State Fault Refusal := .next (receive (0x6#4 ++ n) protocolError s)

/-- `BAD7`: the silent parser reset (R95). -/
def execBad7 (n : Nibble) (s : State) : Host.Outcome State Fault Refusal := .next (receive (0x7#4 ++ n) protocolError s)

/-- `BAD9`: the silent parser reset (R95). -/
def execBad9 (n : Nibble) (s : State) : Host.Outcome State Fault Refusal := .next (receive (0x9#4 ++ n) protocolError s)

/-- `BADA`: the silent parser reset (R95). -/
def execBadA (n : Nibble) (s : State) : Host.Outcome State Fault Refusal := .next (receive (0xA#4 ++ n) protocolError s)

/-- `BADB`: the silent parser reset (R95). -/
def execBadB (n : Nibble) (s : State) : Host.Outcome State Fault Refusal := .next (receive (0xB#4 ++ n) protocolError s)

/-- `BADC`: the silent parser reset (R95). -/
def execBadC (n : Nibble) (s : State) : Host.Outcome State Fault Refusal := .next (receive (0xC#4 ++ n) protocolError s)

/-- `BADD`: the silent parser reset (R95). -/
def execBadD (n : Nibble) (s : State) : Host.Outcome State Fault Refusal := .next (receive (0xD#4 ++ n) protocolError s)

/-- `BADE`: the silent parser reset (R95). -/
def execBadE (n : Nibble) (s : State) : Host.Outcome State Fault Refusal := .next (receive (0xE#4 ++ n) protocolError s)

/-- `BADF`: the silent parser reset (R95). -/
def execBadF (n : Nibble) (s : State) : Host.Outcome State Fault Refusal := .next (receive (0xF#4 ++ n) protocolError s)

end Sys2Proof.Machine
end

