-- ==== Sys2Proof/Machine/Dispatch.lean ====
section
/-! DEFINITION. One arm for each constructor of Instr, each a direct call of its meaning. -/

namespace Sys2Proof.Machine

def exec (i : Instr) (s : State) : Host.Outcome State Fault Refusal :=
  match i with
  | .idle n => Sys2Proof.Machine.execIdle n s
  | .cmd0 => Sys2Proof.Machine.execCmd0 s
  | .cmd1 => Sys2Proof.Machine.execCmd1 s
  | .cmd2 => Sys2Proof.Machine.execCmd2 s
  | .cmd3 => Sys2Proof.Machine.execCmd3 s
  | .cmd4 => Sys2Proof.Machine.execCmd4 s
  | .cmd5 => Sys2Proof.Machine.execCmd5 s
  | .cmd6 => Sys2Proof.Machine.execCmd6 s
  | .cmd7 => Sys2Proof.Machine.execCmd7 s
  | .cmd8 => Sys2Proof.Machine.execCmd8 s
  | .cmd9 => Sys2Proof.Machine.execCmd9 s
  | .cmd10 => Sys2Proof.Machine.execCmd10 s
  | .cmd11 => Sys2Proof.Machine.execCmd11 s
  | .cmd12 => Sys2Proof.Machine.execCmd12 s
  | .cmd13 => Sys2Proof.Machine.execCmd13 s
  | .cmd14 => Sys2Proof.Machine.execCmd14 s
  | .cmd15 => Sys2Proof.Machine.execCmd15 s
  | .bad1 n => Sys2Proof.Machine.execBad1 n s
  | .bad2 n => Sys2Proof.Machine.execBad2 n s
  | .bad3 n => Sys2Proof.Machine.execBad3 n s
  | .bad4 n => Sys2Proof.Machine.execBad4 n s
  | .bad5 n => Sys2Proof.Machine.execBad5 n s
  | .bad6 n => Sys2Proof.Machine.execBad6 n s
  | .bad7 n => Sys2Proof.Machine.execBad7 n s
  | .bad9 n => Sys2Proof.Machine.execBad9 n s
  | .badA n => Sys2Proof.Machine.execBadA n s
  | .badB n => Sys2Proof.Machine.execBadB n s
  | .badC n => Sys2Proof.Machine.execBadC n s
  | .badD n => Sys2Proof.Machine.execBadD n s
  | .badE n => Sys2Proof.Machine.execBadE n s
  | .badF n => Sys2Proof.Machine.execBadF n s
  | .data b => Sys2Proof.Machine.execData b s
  | .por => Sys2Proof.Machine.execPor s
  | .dbTick v => Sys2Proof.Machine.execDbTick v s
  | .pwmTick => Sys2Proof.Machine.execPwmTick s
  | .rxByte b => Sys2Proof.Machine.execRxByte b s
  | .consume m => Sys2Proof.Machine.execConsume m s
  | .wdtFire => Sys2Proof.Machine.execWdtFire s
  | .animTick => Sys2Proof.Machine.execAnimTick s
  | .resetEnter => Sys2Proof.Machine.execResetEnter s

end Sys2Proof.Machine
end

