-- ==== Sys2Proof/Machine/Step.lean ====
section
/-! DEFINITION. One step: the next event is delivered and its operation performed (00_scope.md R5, 20_memory.md R46). -/

namespace Sys2Proof.Machine

/-- One step of the block. With no event waiting, or at an annotation, nothing happens: the block changes state only by
performing operations (00_scope.md R5), and the internal ones are performed inside `DB_TICK` only (`execDbTick`). -/
def step (s : State) : Host.Outcome State Fault Refusal :=
  match deliver s with
  | .idle t => .next t
  | .perform i t => exec i t
  | .illFormed e => .refused (.illFormedEvent e)

/-- `s` with a table row's instruction as the next event. -/
def State.withFetchWord (s : State) (nbits w : Nat) : State := s.withTableWord nbits w

end Sys2Proof.Machine
end

