-- ==== Sys2Proof/Machine/Trace.lean ====
section
/-! DEFINITION. Traces: several operations one after the other, and the pseudo-operations of 30_encoding.md R74 as the
event words they expand to. -/

namespace Sys2Proof.Machine

/-- The operations `is`, one after the other, each on the state the one before left (20_memory.md R46); a fault or a
refusal ends the run. -/
def execAll : List Instr → State → Host.Outcome State Fault Refusal
  | [], s => .next s
  | i :: is, s =>
    match exec i s with
    | .next t => execAll is t
    | .fault f => .fault f
    | .refused r => .refused r

/-- `RX b` as an event word (R72, R73). -/
def rxEvent (b : Byte) : EventWord := 0x3#4 ++ b

/-- `TICK s` as an event word (R72, R73). -/
def tickEvent (sample : Btn) : EventWord := 0x1#4 ++ (0x0#4 ++ sample)

/-- `CMD r0 g0 b0 s0 t0 r1 g1 b1 s1 t1` (R74): the header `0x8A`, then the record in its order. -/
def cmdTrace (r0 g0 b0 s0 t0 r1 g1 b1 s1 t1 : Byte) : List EventWord :=
  [0x8A#8, r0, g0, b0, s0, t0, r1, g1, b1, s1, t1].map rxEvent

/-- `NOP` (R74). -/
def nopTrace : List EventWord := [rxEvent 0x80#8]

/-- `IDLE` (R74). -/
def idleTrace : List EventWord := [rxEvent 0x00#8]

/-- `TICKS n s` (R74). -/
def ticksTrace (n : Nat) (sample : Btn) : List EventWord := List.replicate n (tickEvent sample)

/-- `ANIMWAIT n` (R74). -/
def animWaitTrace (n : Nat) : List EventWord := ticksTrace (3 * n) 0b0000#4

/-- `FRAME` (R74): one full PWM frame. -/
def frameTrace : List EventWord := List.replicate 256 0x200#12

end Sys2Proof.Machine
end

