-- ==== Sys2Proof/Safety.lean ====
section
/-! DEFINITION. What a good state and a good input are, in the terms statements use. -/

namespace Sys2Proof.Machine

/-- The invariants of the reachable states (10_state.md R20 (a) to (g)), with the canonical form of the command-buffer
space and the reserved bits of the status byte (30_encoding.md R64). R20 (h) and (i) speak of a step and are statements
of their own. -/
structure Inv (s : State) : Prop where
  /-- R20 (a): `tick_cnt` is 0, 1 or 2. -/
  tick_lt : s.tickCnt.toNat < Config.animDiv
  /-- R20 (b): every button's count is below `DEBOUNCE_N`. -/
  count_lt : ∀ i, (s.lane i).count < Config.debounceN
  /-- R20 (c), first half. -/
  idx_zero : s.rxRem = 0#4 → s.rxIdx = 0#4
  /-- R20 (c), second half. -/
  idx_add_rem_le : s.rxIdx.toNat + s.rxRem.toNat ≤ 15
  /-- R20 (d). -/
  duty_eq_lin : ∀ c, s.duty.get c = lin (s.cur.get c)
  /-- R20 (e). -/
  pt_lt_time : s.phaseField .time ≠ 0#8 → s.pt.toNat < (s.phaseField .time).toNat
  /-- R20 (f). -/
  lines_low : s.rstLineData = 0b00#2
  /-- R20 (g), first half. -/
  mode_eq_oe : s.rsState = .resetting ↔ s.rstOe = true
  /-- R20 (g), second half. -/
  oe_eq_armed : s.rstOe = s.wdtArmed
  /-- R64: bits 7:4 of the status byte are 0. -/
  status_reserved : highNibble s.txData = 0x0#4
  /-- The command-buffer space is in its canonical form. -/
  buf_wf : Memory.wf s.buf

/-- The two states differ in nothing but the bytes of the inactive buffer (20_memory.md R49). -/
def SameButInactive (s t : State) : Prop :=
  { s with buf := t.buf } = t ∧
    ∀ a : BufAddr, a.slot = s.act → s.readBuf a = t.readBuf a

end Sys2Proof.Machine
end

