-- ==== Sys2Proof/Certificates/Slice0/Obligations.lean ====
section
/-! DEFINITION. The statements for the provers. Each docstring names the rule of spec/ it formalises or rests on. -/

open Sys2Proof Sys2Proof.Machine

/-! ### Encoding -/

/-- Words written out from the tables of 30_encoding.md (R61, R62, R72), one for each kind of row, decode to the
instruction they stand for. A sanity check.
Marked in the spec: R72 [decision D24]. -/
def Obligations.WrittenOutWordsDecode : Prop :=
  decode .awaitingHeader (.byte 0b00000101#8) = .ok (.idle 0b0101#4) ∧
  decode .awaitingHeader (.byte 0b10000000#8) = .ok .cmd0 ∧
  decode .awaitingHeader (.byte 0b10001010#8) = .ok .cmd10 ∧
  decode .awaitingHeader (.byte 0b10010101#8) = .ok (.bad9 0b0101#4) ∧
  decode .inPayload (.byte 0b10001010#8) = .ok (.data 0b10001010#8) ∧
  decode .awaitingHeader (.event 0b000100001100#12) = .ok (.dbTick 0b1100#4) ∧
  decode .awaitingHeader (.event 0b001110001010#12) = .ok (.rxByte 0b10001010#8) ∧
  decode .awaitingHeader (.event 0b010000001110#12) = .ok (.consume 0b1110#4) ∧
  decode .awaitingHeader (.event 0b010100000000#12) = .ok .wdtFire

/-- 30_encoding.md R69: with `rx_rem != 0` every byte is `DATA`; with `rx_rem = 0` its class selects the mnemonic, for class
`0x8` together with the count `N`. Every byte is covered in each state. -/
def Obligations.ByteClassIsChosenByStateAndHighNibble : Prop :=
  ∀ (s : State) (b : Byte),
    (s.rxRem ≠ 0#4 → decodeByte s.parserState b = .data b) ∧
    (s.rxRem = 0#4 →
      (∀ c ∈ [(0x0#4, Instr.idle), (0x1#4, Instr.bad1), (0x2#4, Instr.bad2), (0x3#4, Instr.bad3), (0x4#4, Instr.bad4),
          (0x5#4, Instr.bad5), (0x6#4, Instr.bad6), (0x7#4, Instr.bad7), (0x9#4, Instr.bad9), (0xA#4, Instr.badA),
          (0xB#4, Instr.badB), (0xC#4, Instr.badC), (0xD#4, Instr.badD), (0xE#4, Instr.badE), (0xF#4, Instr.badF)],
        highNibble b = c.1 → decodeByte s.parserState b = c.2 (lowNibble b)) ∧
      (highNibble b = 0x8#4 →
        [Instr.cmd0, .cmd1, .cmd2, .cmd3, .cmd4, .cmd5, .cmd6, .cmd7, .cmd8, .cmd9, .cmd10, .cmd11, .cmd12, .cmd13,
          .cmd14, .cmd15][(lowNibble b).toNat]? = some (decodeByte s.parserState b)))

/-- 30_encoding.md R72: which event words spell no event.
Marked in the spec: R72 [decision D24]. -/
def Obligations.EventWordsAreRefusedExactlyWhenIllFormed : Prop :=
  ∀ w : EventWord,
    (∃ e, decodeEvent w = .error e) ↔
      (8 ≤ (eventKind w).toNat ∨
        (eventKind w ∈ [0x0#4, 0x2#4, 0x5#4, 0x6#4, 0x7#4] ∧ eventOperand w ≠ 0x00#8) ∨
        (eventKind w ∈ [0x1#4, 0x4#4] ∧ highNibble (eventOperand w) ≠ 0x0#4))

/-- Decode of encode is the instruction itself, for every instruction that may be decoded in the parser state, with every
operand at every value (30_encoding.md sections 1, 3, 6). -/
def Obligations.EncodeThenDecodeGivesTheInstruction : Prop :=
  ∀ (p : ParserState) (i : Instr), i.fits p = true → decode p (encode i) = .ok i

/-- Each word has one meaning: what decodes to an instruction is that instruction's encoding, and the instruction may be
decoded there (30_encoding.md sections 3, 5, 6). -/
def Obligations.DecodeThenEncodeGivesTheWord : Prop :=
  ∀ (p : ParserState) (c : Code) (i : Instr), decode p c = .ok i → encode i = c ∧ i.fits p = true

/-! ### The step -/

/-- The step performs the operation the next event word decodes to, where a strobe starts that operation, with the word taken
off and no output raised yet (00_scope.md R5, 20_memory.md R46, 30_encoding.md R72). The list of events and the outputs
are the model's choice (log entries 1 and 2).
Marked in the spec: R5 [decision D2, D7], R46 [decision D2], R72 [decision D24]. -/
def Obligations.StepPerformsTheDecodedEvent : Prop :=
  ∀ (s : State) (w : EventWord) (rest : List EventWord) (i : Instr),
    s.events = w :: rest → decodeEvent w = .ok i → i.isExternal = true →
    step s = exec i { s with events := rest, out := Outputs.quiet }

/-- With no event the state stays but for the outputs, which fall (00_scope.md R5); so it does at the word of an internal
operation, which is an annotation and no input, and is taken off (00_scope.md R5, 30_encoding.md R72); a word that spells
no event is refused by name (30_encoding.md R72). The list of events, the outputs and the step that takes an annotation
off are the model's choice (log entries 1, 2 and 6).
Marked in the spec: R5 [decision D2, D7], R72 [decision D24]. -/
def Obligations.StepIdlesOrRefusesIllFormedWords : Prop :=
  (∀ s : State, s.events = [] → step s = .next { s with out := Outputs.quiet }) ∧
  (∀ (s : State) (rest : List EventWord), ∀ c ∈ [(0x600#12, Instr.animTick), (0x700#12, Instr.resetEnter)],
    decodeEvent c.1 = .ok c.2 ∧
      (s.events = c.1 :: rest → step s = .next { s with events := rest, out := Outputs.quiet })) ∧
  (∀ (s : State) (w : EventWord) (rest : List EventWord) (e : DecodeError),
    s.events = w :: rest → decodeEvent w = .error e → step s = .refused (.illFormedEvent e))

/-- 60_exceptions.md R151: no operation faults or refuses its operands; `WDT_FIRE` alone is conditional, on `wdt_armed`. -/
def Obligations.EveryOperationIsTotal : Prop :=
  (∀ (i : Instr) (s : State), i ≠ .wdtFire → ∃ t, exec i s = .next t) ∧
  (∀ s : State, (∃ t, exec .wdtFire s = .next t) ↔ s.wdtArmed = true) ∧
  (∀ (s : State) (f : Fault), step s ≠ .fault f)

/-- `RX_BYTE` is the byte class that decode selects (41_command_receiver.md R91; 30_encoding.md R69). -/
def Obligations.ReceivedByteIsPerformedAsItsClass : Prop :=
  ∀ (b : Byte) (s : State), exec (.rxByte b) s = exec (decodeByte s.parserState b) s

/-! ### The command byte assembler -/

/-- 30_encoding.md R66: the status byte. Every byte is answered with it, in every parser state (41_command_receiver.md
R102), and the strobe is raised. -/
def Obligations.EveryByteIsAnsweredWithTheStatusByte : Prop :=
  ∀ (b : Byte) (s : State), ∃ t, exec (.rxByte b) s = .next t ∧
    t.txData = 0x0#4 ++ s.dbState ∧ lowNibble t.txData = s.dbState ∧ highNibble t.txData = 0x0#4 ∧
    t.out.txLoad = true

/-- 41_command_receiver.md R92: a header `0x8N` with `N` in 1..15, awaited, starts a payload of `N` bytes and changes
nothing else but the status byte.
Marked in the spec: R92 [decision D13, D14]. -/
def Obligations.CommandHeaderStartsItsPayload : Prop :=
  ∀ (s : State), s.rxRem = 0#4 →
    ∀ c ∈ [(Instr.cmd1, 1#4), (.cmd2, 2#4), (.cmd3, 3#4), (.cmd4, 4#4), (.cmd5, 5#4), (.cmd6, 6#4), (.cmd7, 7#4),
        (.cmd8, 8#4), (.cmd9, 9#4), (.cmd10, 10#4), (.cmd11, 11#4), (.cmd12, 12#4), (.cmd13, 13#4), (.cmd14, 14#4),
        (.cmd15, 15#4)],
      exec c.1 s = .next { s with
        txData := 0x0#4 ++ s.dbState, out := { s.out with txLoad := true }, rxIdx := 0#4, rxRem := c.2 }

/-- 41_command_receiver.md R94: an idle byte, awaited, with any low nibble: both parser registers are 0, and apart from the
status load nothing changes. -/
def Obligations.IdleByteOnlyLoadsTheStatus : Prop :=
  ∀ (n : Nibble) (s : State), s.rxRem = 0#4 →
    exec (.rxByte (0x0#4 ++ n)) s = exec (.idle n) s ∧
    exec (.idle n) s = .next { s with
      txData := 0x0#4 ++ s.dbState, out := { s.out with txLoad := true }, rxIdx := 0#4, rxRem := 0#4 }

/-- 41_command_receiver.md R93 and R95: `CMD0` and every unrecognised header, awaited, leave the parser awaiting a header
and change nothing else but the status byte; no flag is raised and no byte stored.
Marked in the spec: R93 [decision D10], R95 [decision D13]. -/
def Obligations.EmptyAndBadHeadersOnlyLoadTheStatus : Prop :=
  ∀ (n : Nibble) (s : State), s.rxRem = 0#4 →
    ∀ i ∈ [Instr.cmd0, .bad1 n, .bad2 n, .bad3 n, .bad4 n, .bad5 n, .bad6 n, .bad7 n, .bad9 n, .badA n, .badB n,
        .badC n, .badD n, .badE n, .badF n],
      exec i s = .next { s with
        txData := 0x0#4 ++ s.dbState, out := { s.out with txLoad := true }, rxIdx := 0#4, rxRem := 0#4 }

/-- 30_encoding.md R62: while a payload is in progress every byte value is data, also one that would be a header. The
effect of a class in the parser state it does not belong to is the model's reading (log entry 5): it is that of its
byte there. -/
def Obligations.EveryByteInPayloadIsData : Prop :=
  ∀ (b : Byte) (s : State),
    exec (.rxByte b) s = exec (.data b) s ∧
    (s.rxRem ≠ 0#4 → ∀ i : Instr, encode i = .byte b → exec i s = exec (.data b) s)

/-- 41_command_receiver.md R96 and R97: a payload byte is stored at `(1 - act, rx_idx)`, the counters move, and the last
byte sets `cmd_ready`. Nothing else changes. -/
def Obligations.PayloadByteIsStoredAndCounted : Prop :=
  ∀ (b : Byte) (s : State) (a : BufAddr), s.rxRem ≠ 0#4 → s.payloadAddr = some a →
    ∃ t, exec (.data b) s = .next t ∧
      a.slot = s.act.other ∧ a.index.val = s.rxIdx.toNat ∧
      t.readBuf a = b ∧ (∀ c : Nat, c ≠ a.cell → t.buf.read c = s.buf.read c) ∧
      t.rxRem.toNat = s.rxRem.toNat - 1 ∧
      (s.rxRem = 1#4 → t.cmdReady = true ∧ t.rxIdx = 0#4) ∧
      (s.rxRem ≠ 1#4 → t.cmdReady = s.cmdReady ∧ t.rxIdx.toNat = s.rxIdx.toNat + 1) ∧
      t = { s with
        txData := 0x0#4 ++ s.dbState, out := { s.out with txLoad := true },
        buf := t.buf, rxRem := t.rxRem, rxIdx := t.rxIdx, cmdReady := t.cmdReady }

/-- 41_command_receiver.md R98: a payload byte beyond index 9 is counted and stored nowhere.
Marked in the spec: R98 [decision D12]. -/
def Obligations.PayloadByteBeyondTheBufferIsOnlyCounted : Prop :=
  ∀ (b : Byte) (s : State), s.rxRem ≠ 0#4 → 10 ≤ s.rxIdx.toNat → s.rxIdx.toNat + s.rxRem.toNat ≤ 15 →
    ∃ t, exec (.data b) s = .next t ∧ s.payloadAddr = none ∧
      t.rxRem.toNat = s.rxRem.toNat - 1 ∧
      (s.rxRem = 1#4 → t.cmdReady = true ∧ t.rxIdx = 0#4) ∧
      (s.rxRem ≠ 1#4 → t.cmdReady = s.cmdReady ∧ t.rxIdx.toNat = s.rxIdx.toNat + 1) ∧
      t = { s with
        txData := 0x0#4 ++ s.dbState, out := { s.out with txLoad := true },
        rxRem := t.rxRem, rxIdx := t.rxIdx, cmdReady := t.cmdReady }

/-- 41_command_receiver.md R101: what `RX_BYTE` never does. `freeCount` is the model's own (log entry 7).
Marked in the spec: R101 [decision D26]. -/
def Obligations.ReceivedBytesLeaveTheRestAlone : Prop :=
  ∀ (b : Byte) (s : State), ∃ t, exec (.rxByte b) s = .next t ∧
    (∀ k : Fin 10, t.readBuf { slot := s.act, index := k } = s.readBuf { slot := s.act, index := k }) ∧
    (s.cmdReady = true → t.cmdReady = true) ∧
    t = { s with
      buf := t.buf, rxRem := t.rxRem, rxIdx := t.rxIdx, cmdReady := t.cmdReady, txData := t.txData, out := t.out,
      freeCount := t.freeCount }

/-- 41_command_receiver.md R92, R96 to R100: a header `0x8N` and `N` payload bytes, `N` in 1..15, received with no other
operation between them. The first ten bytes stand in the inactive buffer in order, bytes beyond the tenth nowhere, the
indices from `N` on keep what they held, and the flag is set. The active buffer and every other register stay.
Marked in the spec: R92 [decision D13, D14], R98 [decision D12], R99 [decision D11]. -/
def Obligations.WholeCommandFillsTheInactiveBuffer : Prop :=
  ∀ (s : State) (payload : List Byte), s.rxRem = 0#4 → 1 ≤ payload.length → payload.length ≤ 15 →
    ∃ t, execAll (.rxByte (0x8#4 ++ BitVec.ofNat 4 payload.length) :: payload.map Instr.rxByte) s = .next t ∧
      (∀ k : Fin 10, t.readBuf { slot := s.act.other, index := k } =
        payload.getD k.val (s.readBuf { slot := s.act.other, index := k })) ∧
      (∀ k : Fin 10, t.readBuf { slot := s.act, index := k } = s.readBuf { slot := s.act, index := k }) ∧
      t = { s with
        buf := t.buf, rxRem := 0#4, rxIdx := 0#4, cmdReady := true, txData := 0x0#4 ++ s.dbState,
        out := { s.out with txLoad := true } }

/-- Before its last payload byte a command of any length raises no flag: 41_command_receiver.md R92, R96 and R97, with R100
for `CMD10`, R99 for `CMD1` to `CMD9` and R98 for `CMD11` to `CMD15`. That the headers of R98 and R99 are executed at all is the
choice of log entry 9.
Marked in the spec: R92 [decision D13, D14], R98 [decision D12], R99 [decision D11]. -/
def Obligations.UnfinishedCommandRaisesNoFlag : Prop :=
  ∀ (s : State) (n : Nat) (payload : List Byte), s.rxRem = 0#4 → n ≤ 15 → payload.length < n →
    ∃ t, execAll (.rxByte (0x8#4 ++ BitVec.ofNat 4 n) :: payload.map Instr.rxByte) s = .next t ∧
      t.cmdReady = s.cmdReady ∧ t.act = s.act ∧
      t.rxRem.toNat = n - payload.length ∧ t.rxIdx.toNat = payload.length

/-- 70_reset_and_hazards.md R175: zero bytes, as many as the parser still expects or more, leave it awaiting a header; 15 are
enough in every state.
Marked in the spec: R175 [derived]. -/
def Obligations.ZeroBytesBringTheParserBack : Prop :=
  ∀ (s : State) (n : Nat), s.rxRem.toNat ≤ n →
    ∃ t, execAll (List.replicate n (.rxByte 0x00#8)) s = .next t ∧ t.rxRem = 0#4

/-! ### The debounce sampler -/

/-- 40_debounce.md R81: what a debounce tick does to each button's debounced bit and count, in every state.
Marked in the spec: R81 [decision D4]. -/
def Obligations.DebounceTickCountsAndFlipsEachButton : Prop :=
  ∀ (v : Btn) (s : State), ∃ t, exec (.dbTick v) s = .next t ∧ ∀ i : Fin 4,
    (v.getLsbD i = s.dbState.getLsbD i →
      t.dbState.getLsbD i = s.dbState.getLsbD i ∧ (t.lane i).count = 0) ∧
    (v.getLsbD i ≠ s.dbState.getLsbD i → (s.lane i).count + 1 < 2 →
      t.dbState.getLsbD i = s.dbState.getLsbD i ∧ (t.lane i).count = (s.lane i).count + 1) ∧
    (v.getLsbD i ≠ s.dbState.getLsbD i → 2 ≤ (s.lane i).count + 1 →
      t.dbState.getLsbD i = v.getLsbD i ∧ (t.lane i).count = 0)

/-- 40_debounce.md R82: an edge is set by a change of the debounced bit from 0 to 1, in the same step, and by nothing else;
no edge is cleared. -/
def Obligations.PressEdgeIsSetByAPressOnly : Prop :=
  ∀ (v : Btn) (s : State), ∃ t, exec (.dbTick v) s = .next t ∧ ∀ i : Fin 4,
    t.pressEdge.getLsbD i = (s.pressEdge.getLsbD i || (!s.dbState.getLsbD i && t.dbState.getLsbD i))

/-- 40_debounce.md R87: the bitwise form of the update, where `db_ct1` is 0 as in every reachable state, together with the
whole of a tick that is neither a third tick nor triggers the reset sequence: nothing else changes (R83).
Marked in the spec: R83 [decision D5, D6], R87 [derived]. -/
def Obligations.OrdinaryDebounceTickInBitwiseForm : Prop :=
  ∀ (v : Btn) (s : State), s.dbCt1 = 0#4 → s.tickCnt.toNat < 2 →
    (s.rsState = .resetting ∨ s.dbState ^^^ ((v ^^^ s.dbState) &&& s.dbCt0) ≠ 0b1100#4) →
    exec (.dbTick v) s = .next { s with
      dbCt0 := (v ^^^ s.dbState) &&& ~~~s.dbCt0
      dbCt1 := 0#4
      dbState := s.dbState ^^^ ((v ^^^ s.dbState) &&& s.dbCt0)
      pressEdge := s.pressEdge ||| (((v ^^^ s.dbState) &&& s.dbCt0) &&& v)
      tickCnt := s.tickCnt + 1#2 }

/-- 40_debounce.md R83: the parts of a debounce tick in their order: update, reset check on the updated state, tick divider,
the last two being the internal operations themselves.
Marked in the spec: R83 [decision D5, D6]. -/
def Obligations.DebounceTickPerformsItsPartsInOrder : Prop :=
  ∀ (v : Btn) (s u r : State), u = dbUpdate v s →
    ((u.rsState = .normal ∧ u.dbState = 0b1100#4) → exec .resetEnter u = .next r) →
    (¬(u.rsState = .normal ∧ u.dbState = 0b1100#4) → r = u) →
    (s.tickCnt.toNat + 1 < 3 → exec (.dbTick v) s = .next { r with tickCnt := s.tickCnt + 1#2 }) ∧
    (3 ≤ s.tickCnt.toNat + 1 → exec (.dbTick v) s = exec .animTick { r with tickCnt := 0#2 })

/-- 40_debounce.md R84 (a): one differing sample between agreeing ones sets no edge and flips nothing.
Marked in the spec: R84 [derived]. -/
def Obligations.SingleTickSpikeSetsNoEdge : Prop :=
  ∀ (v w : Btn) (s : State) (i : Fin 4),
    s.dbState.getLsbD i = false → (s.lane i).count = 0 → v.getLsbD i = true → w.getLsbD i = false →
    ∃ t, execAll [.dbTick v, .dbTick w] s = .next t ∧
      t.dbState.getLsbD i = false ∧ (t.lane i).count = 0 ∧ t.pressEdge.getLsbD i = s.pressEdge.getLsbD i

/-- 40_debounce.md R84 (b) and R85: a press held for two ticks sets the edge, and once the edge is consumed a button still held
sets no further one.
Marked in the spec: R84 [derived], R85 [decision D16]. -/
def Obligations.HeldPressSetsTheEdgeOnce : Prop :=
  ∀ (v w x m : Btn) (s : State) (i : Fin 4),
    s.dbState.getLsbD i = false → (s.lane i).count = 0 →
    v.getLsbD i = true → w.getLsbD i = true → x.getLsbD i = true → m.getLsbD i = true →
    ∃ t u, execAll [.dbTick v, .dbTick w] s = .next t ∧
      t.dbState.getLsbD i = true ∧ t.pressEdge.getLsbD i = true ∧
      execAll [.consume m, .dbTick x] t = .next u ∧
      u.dbState.getLsbD i = true ∧ u.pressEdge.getLsbD i = false

/-- 40_debounce.md R85: `CONSUME` returns the selected edges and clears exactly those; nothing else changes.
Marked in the spec: R85 [decision D16]. -/
def Obligations.ConsumeReadsAndClearsTheSelectedEdges : Prop :=
  ∀ (m : Btn) (s : State),
    exec (.consume m) s = .next { s with
      pressEdge := s.pressEdge &&& ~~~m, out := { s.out with consumeResp := some (s.pressEdge &&& m) } }

/-- 40_debounce.md R85: a second `CONSUME` with no tick between returns nothing.
Marked in the spec: R85 [decision D16]. -/
def Obligations.SecondConsumeReturnsZero : Prop :=
  ∀ (m : Btn) (s : State), ∃ t, execAll [.consume m, .consume m] s = .next t ∧
    t.out.consumeResp = some 0#4 ∧ t.pressEdge = s.pressEdge &&& ~~~m

/-- 20_memory.md R48: an edge set by a tick before a `CONSUME` is returned by it if selected; one set by a tick after it is
kept. -/
def Obligations.NoPressEdgeIsLost : Prop :=
  ∀ (v m : Btn) (s u : State), exec (.dbTick v) s = .next u →
    (∃ t, execAll [.dbTick v, .consume m] s = .next t ∧
      t.out.consumeResp = some (u.pressEdge &&& m) ∧ t.pressEdge = u.pressEdge &&& ~~~m) ∧
    (∃ t, execAll [.consume m, .dbTick v] s = .next t ∧ ∀ i : Fin 4,
      t.pressEdge.getLsbD i =
        ((s.pressEdge.getLsbD i && !m.getLsbD i) || (!s.dbState.getLsbD i && u.dbState.getLsbD i)))

/-! ### The animation datapath -/

/-- 42_animation.md R112: the effective slew, and that 255 reaches any target in one tick. -/
def Obligations.EffectiveSlewOfZeroIsUnlimited : Prop :=
  (∀ slew : Byte, effectiveSlew slew = if slew = 0#8 then 255#8 else slew) ∧
  (∀ slew : Byte, 1 ≤ (effectiveSlew slew).toNat ∧ (effectiveSlew slew).toNat ≤ 255) ∧
  (∀ cur tgt : Byte, ramp cur tgt 255#8 = tgt)

/-- 42_animation.md R113: the ramp moves by `min(es, distance)` towards the target, never past it; it is applied to each
channel with the same `es`; and a fixed target is reached after `n` ticks exactly when `n * es` is at least the distance,
that is for `n` from `ceil(distance / es)` on. -/
def Obligations.RampMovesTowardsTheTargetWithoutOvershoot : Prop :=
  (∀ cur tgt es : Byte,
    (cur.toNat < tgt.toNat → (ramp cur tgt es).toNat = cur.toNat + min es.toNat (tgt.toNat - cur.toNat)) ∧
    (tgt.toNat < cur.toNat → (ramp cur tgt es).toNat = cur.toNat - min es.toNat (cur.toNat - tgt.toNat)) ∧
    (cur = tgt → ramp cur tgt es = cur) ∧
    min cur.toNat tgt.toNat ≤ (ramp cur tgt es).toNat ∧ (ramp cur tgt es).toNat ≤ max cur.toNat tgt.toNat) ∧
  (∀ (s : State) (c : Channel),
    (rampChannels s).cur.get c = ramp (s.cur.get c) (s.phaseField c.field) (effectiveSlew (s.phaseField .slew))) ∧
  (∀ (cur tgt es : Byte) (n : Nat), 1 ≤ es.toNat →
    (Nat.iterate (fun c => ramp c tgt es) n cur = tgt ↔
      max cur.toNat tgt.toNat - min cur.toNat tgt.toNat ≤ n * es.toNat))

/-- 42_animation.md R114: the three segments of the colour curve. -/
def Obligations.ColourCurveHasThreeSegments : Prop :=
  ∀ v : Byte,
    (v.toNat < 128 → (lin v).toNat = v.toNat / 2) ∧
    (128 ≤ v.toNat → v.toNat < 192 → (lin v).toNat = 64 + (v.toNat - 128)) ∧
    (192 ≤ v.toNat → (lin v).toNat = 128 + (v.toNat - 192) * 2)

/-- 42_animation.md R116: the curve is non-decreasing, strictly increasing from 128 on, steps by at most 2, and never
exceeds 254.
Marked in the spec: R116 [derived]. -/
def Obligations.ColourCurveIsMonotoneAndBelow255 : Prop :=
  (∀ v w : Byte, v.toNat ≤ w.toNat → (lin v).toNat ≤ (lin w).toNat) ∧
  (∀ v w : Byte, 128 ≤ v.toNat → v.toNat < w.toNat → (lin v).toNat < (lin w).toNat) ∧
  (∀ v w : Byte, v.toNat + 1 = w.toNat → (lin w).toNat ≤ (lin v).toNat + 2) ∧
  (∀ v : Byte, (lin v).toNat ≤ 254) ∧
  (∀ v w : Byte, v.toNat < 128 → w.toNat < 128 → ((lin v = lin w) ↔ v.toNat / 2 = w.toNat / 2))

/-- 42_animation.md R115: every animation tick publishes the linear duty of the new channel values. -/
def Obligations.AnimationTickPublishesLinearDuty : Prop :=
  ∀ s : State, ∃ t, exec .animTick s = .next t ∧ ∀ c : Channel, t.duty.get c = lin (t.cur.get c)

/-- 42_animation.md R110 and R117: an animation tick with no command ready: every channel ramps towards its target in the
active phase, the duty is published, and the phase is stepped by its `time`; no byte of a buffer and nothing else
changes.
Marked in the spec: R110 [decision D7], R117 [decision D27]. -/
def Obligations.AnimationTickRampsThenStepsThePhase : Prop :=
  ∀ s : State, s.cmdReady = false →
    (s.phaseField .time ≠ 0#8 → s.pt.toNat < (s.phaseField .time).toNat) →
    ∃ t, exec .animTick s = .next t ∧
      (∀ c : Channel,
        t.cur.get c = ramp (s.cur.get c) (s.phaseField c.field)
            (if s.phaseField .slew = 0#8 then 255#8 else s.phaseField .slew) ∧
        t.duty.get c = lin (t.cur.get c)) ∧
      (s.phaseField .time = 0#8 → t.pt = s.pt ∧ t.phase = s.phase) ∧
      (s.phaseField .time ≠ 0#8 → s.pt.toNat + 1 = (s.phaseField .time).toNat →
        t.pt = 0#8 ∧ t.phase = s.phase.other) ∧
      (s.phaseField .time ≠ 0#8 → s.pt.toNat + 1 ≠ (s.phaseField .time).toNat →
        t.pt.toNat = s.pt.toNat + 1 ∧ t.phase = s.phase) ∧
      t = { s with cur := t.cur, duty := t.duty, pt := t.pt, phase := t.phase }

/-- 42_animation.md R111: an animation tick with a command ready swaps first: it is the tick of the state in which the
inactive buffer is the active one, the buffer that was active is zero, phase and elapsed ticks are 0 and the flag is
clear; `cur` and `duty` are not reset.
Marked in the spec: R111 [decision D8, D9]. -/
def Obligations.AnimationTickSwapsAReadyCommandFirst : Prop :=
  ∀ s : State, s.cmdReady = true →
    ∃ u, exec .animTick s = exec .animTick u ∧
      (∀ k : Fin 10, u.readBuf { slot := s.act, index := k } = 0x00#8) ∧
      (∀ k : Fin 10, u.readBuf { slot := s.act.other, index := k } = s.readBuf { slot := s.act.other, index := k }) ∧
      (∀ c : Nat, 20 ≤ c → u.buf.read c = s.buf.read c) ∧
      u = { s with buf := u.buf, act := s.act.other, phase := .zero, pt := 0#8, cmdReady := false }

/-- 42_animation.md R117: a phase with `time = T` is the target for exactly `T` consecutive animation ticks.
Marked in the spec: R117 [decision D27]. -/
def Obligations.PhaseLastsExactlyItsTime : Prop :=
  ∀ s : State, s.cmdReady = false → s.pt = 0#8 → s.phaseField .time ≠ 0#8 →
    (∀ n : Nat, n < (s.phaseField .time).toNat →
      ∃ t, execAll (List.replicate n .animTick) s = .next t ∧ t.phase = s.phase ∧ t.pt.toNat = n) ∧
    (∃ t, execAll (List.replicate (s.phaseField .time).toNat .animTick) s = .next t ∧
      t.phase = s.phase.other ∧ t.pt = 0#8)

/-- 42_animation.md R119, its case `time = 0` (the other one is LongEnoughPhaseReachesItsTargetExactly): in a phase held for
ever, after enough animation ticks every channel shows the curve's value of its target exactly. Enough is `n` with
`n * es` at least every distance to go.
Marked in the spec: R119 [derived]. -/
def Obligations.HeldPhaseReachesItsTargetExactly : Prop :=
  ∀ (s : State) (n : Nat), s.cmdReady = false → s.phaseField .time = 0#8 → 1 ≤ n →
    (∀ c : Channel,
      (s.phaseField c.field).toNat ≤ (s.cur.get c).toNat + n * (effectiveSlew (s.phaseField .slew)).toNat ∧
      (s.cur.get c).toNat ≤ (s.phaseField c.field).toNat + n * (effectiveSlew (s.phaseField .slew)).toNat) →
    ∃ t, execAll (List.replicate n .animTick) s = .next t ∧
      ∀ c : Channel, t.cur.get c = s.phaseField c.field ∧ t.duty.get c = lin (s.phaseField c.field)

/-- 42_animation.md R119, its case `time` at least the ticks needed: in a phase that stays the target for `n` more animation
ticks, after the `n`-th every channel shows the curve's value of its target exactly, if `n * es` is at least every
distance to go. The tick that ends the phase is counted: it ramps before it flips.
Marked in the spec: R119 [derived]. -/
def Obligations.LongEnoughPhaseReachesItsTargetExactly : Prop :=
  ∀ (s : State) (n : Nat), s.cmdReady = false → 1 ≤ n → s.pt.toNat + n ≤ (s.phaseField .time).toNat →
    (∀ c : Channel,
      (s.phaseField c.field).toNat ≤ (s.cur.get c).toNat + n * (effectiveSlew (s.phaseField .slew)).toNat ∧
      (s.cur.get c).toNat ≤ (s.phaseField c.field).toNat + n * (effectiveSlew (s.phaseField .slew)).toNat) →
    ∃ t, execAll (List.replicate n .animTick) s = .next t ∧
      ∀ c : Channel, t.cur.get c = s.phaseField c.field ∧ t.duty.get c = lin (s.phaseField c.field)

/-- 20_memory.md R49: bytes of the inactive buffer are not seen by an animation tick that does not swap, nor by a PWM tick: two
states that differ in nothing else go on differing in nothing else. -/
def Obligations.InactiveBufferIsInvisibleBeforeTheSwap : Prop :=
  ∀ s t : State, SameButInactive s t → s.cmdReady = false →
    ∀ i ∈ [Instr.animTick, .pwmTick], ∃ s' t', exec i s = .next s' ∧ exec i t = .next t' ∧ SameButInactive s' t'

/-! ### The PWM generator -/

/-- 43_pwm.md R131 and R132: one PWM tick writes the port whole, colour bits by `pwm_index < duty` and both reset-line bits 0,
then moves the counter, 255 to 0; nothing else changes.
Marked in the spec: R131 [decision D17, D18], R132 [decision D18]. -/
def Obligations.PwmTickWritesThePortAndMovesOn : Prop :=
  ∀ s : State, ∃ t, exec .pwmTick s = .next t ∧
    (∀ c : Channel, t.led.getLsbD c.field.offset = decide (s.pwmIndex.toNat < (s.duty.get c).toNat)) ∧
    t.rstLineData = 0b00#2 ∧
    t.pwmIndex.toNat = (if s.pwmIndex.toNat = 255 then 0 else s.pwmIndex.toNat + 1) ∧
    t = { s with portData := t.portData, pwmIndex := t.pwmIndex }

/-- 43_pwm.md R133: over any 256 consecutive PWM ticks, whatever `pwm_index` is at their start, a channel is on in exactly
`duty` of them.
Marked in the spec: R133 [derived]. -/
def Obligations.PwmFrameIsOnForDutyTicks : Prop :=
  ∀ s : State, ∃ f : Nat → State, f 0 = s ∧ (∀ n, exec .pwmTick (f n) = .next (f (n + 1))) ∧
    ∀ c : Channel,
      (List.range 256).countP (fun n => (f (n + 1)).led.getLsbD c.field.offset) = (s.duty.get c).toNat

/-- 43_pwm.md R132 and 10_state.md R19: no operation raises a reset-line bit, so that the pins are low from the step that makes
them outputs on.
Marked in the spec: R19 [decision D1, D3, D18], R132 [decision D18]. -/
def Obligations.ResetLinesAreNeverDrivenHigh : Prop :=
  ∀ (i : Instr) (s t : State), exec i s = .next t → s.rstLineData = 0b00#2 →
    t.rstLineData = 0b00#2 ∧ (t.rstOe = true → t.rstLinePins = some 0b00#2) ∧
    (t.rstOe = false → t.rstLinePins = none)

/-! ### The reset-sequence controller and the restarts -/

/-- 44_reset_sequencer.md R141 and R142: the writes of `RESET_ENTER` and no others; the ten bytes of the flash pattern go to
the inactive buffer.
Marked in the spec: R141 [decision D19, D20], R142 [decision D19]. -/
def Obligations.ResetEnterWritesThePatternAndTheFlags : Prop :=
  ∀ s : State, ∃ t, exec .resetEnter s = .next t ∧
    (∀ k : Fin 10, t.readBuf { slot := s.act.other, index := k } =
      [255#8, 255#8, 255#8, 0#8, 4#8, 0#8, 0#8, 0#8, 0#8, 4#8].getD k.val 0#8) ∧
    (∀ k : Fin 10, t.readBuf { slot := s.act, index := k } = s.readBuf { slot := s.act, index := k }) ∧
    (∀ c : Nat, 20 ≤ c → t.buf.read c = s.buf.read c) ∧
    t = { s with buf := t.buf, rsState := .resetting, cmdReady := true, rstOe := true, wdtArmed := true }

/-- 44_reset_sequencer.md R145: in NORMAL a debounce tick enters RESETTING exactly when the updated debounced state is
setup and down and no other; in RESETTING it stays there.
Marked in the spec: R145 [decision D5]. -/
def Obligations.DebounceTickTriggersOnExactlyTheCombination : Prop :=
  ∀ (v : Btn) (s : State), ∃ t, exec (.dbTick v) s = .next t ∧
    (s.rsState = .normal → (t.rsState = .resetting ↔ t.dbState = 0b1100#4)) ∧
    (s.rsState = .normal → t.dbState = 0b1100#4 → t.rstOe = true ∧ t.wdtArmed = true) ∧
    (s.rsState = .resetting → t.rsState = .resetting)

/-- 44_reset_sequencer.md R143 and 10_state.md R20 (h): no operation but the restarts leaves RESETTING, releases the reset lines
or disarms the watchdog.
Marked in the spec: R20 [derived], R143 [decision D20, D26]. -/
def Obligations.OnlyARestartLeavesResetting : Prop :=
  ∀ (i : Instr) (s t : State), i ≠ .por → i ≠ .wdtFire → exec i s = .next t →
    (s.rsState = .resetting → t.rsState = .resetting) ∧
    (s.rstOe = true → t.rstOe = true) ∧ (s.wdtArmed = true → t.wdtArmed = true)

/-- 60_exceptions.md R156, 41_command_receiver.md R101 and 00_scope.md R5: whatever the events are, a step enters RESETTING
only by a debounce tick that debounces the reserved combination, never by a received byte, and never by the word of an
internal operation. The list of events is the model's choice (log entry 1), and so is the step that takes an annotation off (log
entry 6).
Marked in the spec: R5 [decision D2, D7], R101 [decision D26]. -/
def Obligations.OnlyTheButtonsEnterResetting : Prop :=
  ∀ s t : State, step s = .next t → s.rsState = .normal → t.rsState = .resetting →
    ∃ (v : Btn) (rest : List EventWord), s.events = tickEvent v :: rest ∧ t.events = rest ∧
      t.dbState = 0b1100#4

/-- 44_reset_sequencer.md R144: `WDT_FIRE` in an armed state gives every register its reset value, and while not armed it
is refused as ill-formed. That the events still to come and the count of free values stay is the model's choice (log
entries 4 and 7).
Marked in the spec: R144 [decision D21, D22]. -/
def Obligations.WatchdogRestartsWhenArmed : Prop :=
  (∀ s : State, s.wdtArmed = true →
    exec .wdtFire s = .next { State.reset with events := s.events, freeCount := s.freeCount }) ∧
  (∀ s : State, s.wdtArmed = false → exec .wdtFire s = .refused .watchdogNotArmed)

/-- 44_reset_sequencer.md R146: after a watchdog restart, two ticks with exactly setup and down held start the sequence over.
Marked in the spec: R146 [derived]. -/
def Obligations.HeldCombinationTriggersAgainAfterTheRestart : Prop :=
  ∀ s : State, s.wdtArmed = true →
    ∃ t u, execAll [.wdtFire, .dbTick 0b1100#4] s = .next t ∧ t.rsState = .normal ∧ t.rstOe = false ∧
      exec (.dbTick 0b1100#4) t = .next u ∧ u.rsState = .resetting ∧ u.rstOe = true ∧ u.wdtArmed = true

/-- 70_reset_and_hazards.md R170 and 10_state.md R11: every register after reset.
Marked in the spec: R170 [decision D22]. -/
def Obligations.ResetLeavesEveryRegisterZero : Prop :=
  (∀ a : BufAddr, State.reset.readBuf a = 0x00#8) ∧
  State.reset.dbState = 0b0000#4 ∧ State.reset.dbCt0 = 0b0000#4 ∧ State.reset.dbCt1 = 0b0000#4 ∧
  State.reset.pressEdge = 0b0000#4 ∧ State.reset.tickCnt = 0#2 ∧ State.reset.rxRem = 0#4 ∧ State.reset.rxIdx = 0#4 ∧
  State.reset.cmdReady = false ∧ State.reset.txData = 0x00#8 ∧ State.reset.act = .zero ∧ State.reset.phase = .zero ∧
  State.reset.pt = 0#8 ∧ State.reset.cur = Rgb.of (fun _ => 0#8) ∧ State.reset.duty = Rgb.of (fun _ => 0#8) ∧
  State.reset.pwmIndex = 0#8 ∧ State.reset.portData = 0b00000#5 ∧ State.reset.rsState = .normal ∧
  State.reset.rstOe = false ∧ State.reset.wdtArmed = false

/-- 70_reset_and_hazards.md R170: `POR` gives every register its reset value in every state. That the events still to come and
the count of free values stay is the model's choice (log entries 4 and 7).
Marked in the spec: R170 [decision D22]. -/
def Obligations.PowerOnGivesEveryRegisterItsResetValue : Prop :=
  ∀ s : State, exec .por s = .next { State.reset with events := s.events, freeCount := s.freeCount }

/-! ### Whole-machine rules -/

/-- `Inv` holds after reset: 10_state.md R20 (a) to (g), the reserved bits of the status byte (30_encoding.md R64), and the
canonical form of the list that holds the command-buffer space, which is the model's choice (log entry 10).
Marked in the spec: R20 [derived]. -/
def Obligations.ResetMeetsTheInvariants : Prop := Inv State.reset

/-- Every step keeps `Inv`, from every state that meets it, whatever events come: 10_state.md R20 (a) to (g), the reserved bits
of the status byte (30_encoding.md R64), and the canonical form of the list that holds the command-buffer space, which is
the model's choice (log entry 10).
Marked in the spec: R20 [derived]. -/
def Obligations.EveryStepKeepsTheInvariants : Prop :=
  ∀ s t : State, Inv s → step s = .next t → Inv t

/-- 10_state.md R20 (i) and 20_memory.md R42, R51: no operation but a restart writes a byte of the active buffer while it is
active; the buffer an animation tick takes out of use is zero afterwards.
Marked in the spec: R20 [derived]. -/
def Obligations.NothingWritesTheActiveBuffer : Prop :=
  ∀ (i : Instr) (s t : State), i ≠ .por → i ≠ .wdtFire → exec i s = .next t →
    (t.act = s.act → ∀ k : Fin 10,
      t.readBuf { slot := s.act, index := k } = s.readBuf { slot := s.act, index := k }) ∧
    (t.act ≠ s.act → ∀ k : Fin 10, t.readBuf { slot := s.act, index := k } = 0x00#8)

/-- 10_state.md R16: which operations set and clear each flag. -/
def Obligations.FlagsChangeOnlyAsListed : Prop :=
  ∀ (i : Instr) (s t : State), i ≠ .por → i ≠ .wdtFire → exec i s = .next t →
    (s.cmdReady = false → t.cmdReady = true →
      ((∃ b, encode i = .byte b ∨ i = .rxByte b) ∧ s.rxRem = 1#4 ∧ t.rxRem = 0#4) ∨
      (i = .resetEnter ∨ ∃ v, i = .dbTick v ∧ s.rsState = .normal ∧ t.rsState = .resetting)) ∧
    (s.cmdReady = true → t.cmdReady = false → t.act = s.act.other ∧ (i = .animTick ∨ ∃ v, i = .dbTick v)) ∧
    (∀ k : Fin 4, s.pressEdge.getLsbD k = false → t.pressEdge.getLsbD k = true →
      s.dbState.getLsbD k = false ∧ t.dbState.getLsbD k = true ∧ ∃ v, i = .dbTick v) ∧
    (∀ k : Fin 4, s.pressEdge.getLsbD k = true → t.pressEdge.getLsbD k = false →
      ∃ m : Btn, i = .consume m ∧ m.getLsbD k = true) ∧
    (s.rstOe ≠ t.rstOe ∨ s.wdtArmed ≠ t.wdtArmed →
      t.rstOe = true ∧ t.wdtArmed = true ∧
        (i = .resetEnter ∨ ∃ v, i = .dbTick v ∧ s.rsState = .normal ∧ t.rsState = .resetting))

/-- The command-buffer space is held in one form: two spaces in canonical form that read alike everywhere are the same data. A
law of the model's memory (20_memory.md R40; log entry 10). -/
def Obligations.CanonicalBuffersThatReadAlikeAreEqual : Prop :=
  ∀ m n : Memory, Memory.wf m → Memory.wf n → (∀ a : Nat, Memory.read m a = Memory.read n a) → m = n

/-- Read after write, for every address and byte of the command-buffer space (00_scope.md R6, 20_memory.md R44, R46). That a
write keeps the canonical form of the list of cells is a law of the model's own memory, its choice (log entry 10).
Marked in the spec: R6 [decision D24], R46 [decision D2]. -/
def Obligations.BufferWriteIsReadBackAndKeepsTheForm : Prop :=
  ∀ (s : State) (a : BufAddr) (v : Byte),
    (s.writeBuf a v).readBuf a = v ∧
    (∀ c : BufAddr, c ≠ a → (s.writeBuf a v).readBuf c = s.readBuf c) ∧
    (Memory.wf s.buf → Memory.wf (s.writeBuf a v).buf)
end

