-- ==== Sys2Proof/Laws/State.lean ====
section
/-! SUPPORT. For each named update of the state, each field of the result: true by rfl, so that no proof unfolds a record
update again. -/

namespace Sys2Proof.Machine

/-! ### State.writeBuf -/

@[simp] theorem State.writeBuf_dbState (s : State) (a : BufAddr) (v : Byte) : (s.writeBuf a v).dbState = s.dbState := rfl
@[simp] theorem State.writeBuf_dbCt0 (s : State) (a : BufAddr) (v : Byte) : (s.writeBuf a v).dbCt0 = s.dbCt0 := rfl
@[simp] theorem State.writeBuf_dbCt1 (s : State) (a : BufAddr) (v : Byte) : (s.writeBuf a v).dbCt1 = s.dbCt1 := rfl
@[simp] theorem State.writeBuf_pressEdge (s : State) (a : BufAddr) (v : Byte) : (s.writeBuf a v).pressEdge = s.pressEdge := rfl
@[simp] theorem State.writeBuf_tickCnt (s : State) (a : BufAddr) (v : Byte) : (s.writeBuf a v).tickCnt = s.tickCnt := rfl
@[simp] theorem State.writeBuf_rxRem (s : State) (a : BufAddr) (v : Byte) : (s.writeBuf a v).rxRem = s.rxRem := rfl
@[simp] theorem State.writeBuf_rxIdx (s : State) (a : BufAddr) (v : Byte) : (s.writeBuf a v).rxIdx = s.rxIdx := rfl
@[simp] theorem State.writeBuf_cmdReady (s : State) (a : BufAddr) (v : Byte) : (s.writeBuf a v).cmdReady = s.cmdReady := rfl
@[simp] theorem State.writeBuf_txData (s : State) (a : BufAddr) (v : Byte) : (s.writeBuf a v).txData = s.txData := rfl
@[simp] theorem State.writeBuf_buf (s : State) (a : BufAddr) (v : Byte) : (s.writeBuf a v).buf = s.buf.write a.cell v := rfl
@[simp] theorem State.writeBuf_act (s : State) (a : BufAddr) (v : Byte) : (s.writeBuf a v).act = s.act := rfl
@[simp] theorem State.writeBuf_phase (s : State) (a : BufAddr) (v : Byte) : (s.writeBuf a v).phase = s.phase := rfl
@[simp] theorem State.writeBuf_pt (s : State) (a : BufAddr) (v : Byte) : (s.writeBuf a v).pt = s.pt := rfl
@[simp] theorem State.writeBuf_cur (s : State) (a : BufAddr) (v : Byte) : (s.writeBuf a v).cur = s.cur := rfl
@[simp] theorem State.writeBuf_duty (s : State) (a : BufAddr) (v : Byte) : (s.writeBuf a v).duty = s.duty := rfl
@[simp] theorem State.writeBuf_pwmIndex (s : State) (a : BufAddr) (v : Byte) : (s.writeBuf a v).pwmIndex = s.pwmIndex := rfl
@[simp] theorem State.writeBuf_portData (s : State) (a : BufAddr) (v : Byte) : (s.writeBuf a v).portData = s.portData := rfl
@[simp] theorem State.writeBuf_rsState (s : State) (a : BufAddr) (v : Byte) : (s.writeBuf a v).rsState = s.rsState := rfl
@[simp] theorem State.writeBuf_rstOe (s : State) (a : BufAddr) (v : Byte) : (s.writeBuf a v).rstOe = s.rstOe := rfl
@[simp] theorem State.writeBuf_wdtArmed (s : State) (a : BufAddr) (v : Byte) : (s.writeBuf a v).wdtArmed = s.wdtArmed := rfl
@[simp] theorem State.writeBuf_events (s : State) (a : BufAddr) (v : Byte) : (s.writeBuf a v).events = s.events := rfl
@[simp] theorem State.writeBuf_out (s : State) (a : BufAddr) (v : Byte) : (s.writeBuf a v).out = s.out := rfl
@[simp] theorem State.writeBuf_freeCount (s : State) (a : BufAddr) (v : Byte) : (s.writeBuf a v).freeCount = s.freeCount := rfl

/-! ### State.fillSlot -/

@[simp] theorem State.fillSlot_dbState (s : State) (k : Slot) (bytes : List Byte) : (s.fillSlot k bytes).dbState = s.dbState := rfl
@[simp] theorem State.fillSlot_dbCt0 (s : State) (k : Slot) (bytes : List Byte) : (s.fillSlot k bytes).dbCt0 = s.dbCt0 := rfl
@[simp] theorem State.fillSlot_dbCt1 (s : State) (k : Slot) (bytes : List Byte) : (s.fillSlot k bytes).dbCt1 = s.dbCt1 := rfl
@[simp] theorem State.fillSlot_pressEdge (s : State) (k : Slot) (bytes : List Byte) : (s.fillSlot k bytes).pressEdge = s.pressEdge := rfl
@[simp] theorem State.fillSlot_tickCnt (s : State) (k : Slot) (bytes : List Byte) : (s.fillSlot k bytes).tickCnt = s.tickCnt := rfl
@[simp] theorem State.fillSlot_rxRem (s : State) (k : Slot) (bytes : List Byte) : (s.fillSlot k bytes).rxRem = s.rxRem := rfl
@[simp] theorem State.fillSlot_rxIdx (s : State) (k : Slot) (bytes : List Byte) : (s.fillSlot k bytes).rxIdx = s.rxIdx := rfl
@[simp] theorem State.fillSlot_cmdReady (s : State) (k : Slot) (bytes : List Byte) : (s.fillSlot k bytes).cmdReady = s.cmdReady := rfl
@[simp] theorem State.fillSlot_txData (s : State) (k : Slot) (bytes : List Byte) : (s.fillSlot k bytes).txData = s.txData := rfl
@[simp] theorem State.fillSlot_buf (s : State) (k : Slot) (bytes : List Byte) : (s.fillSlot k bytes).buf = s.buf.writeBytes k.base bytes := rfl
@[simp] theorem State.fillSlot_act (s : State) (k : Slot) (bytes : List Byte) : (s.fillSlot k bytes).act = s.act := rfl
@[simp] theorem State.fillSlot_phase (s : State) (k : Slot) (bytes : List Byte) : (s.fillSlot k bytes).phase = s.phase := rfl
@[simp] theorem State.fillSlot_pt (s : State) (k : Slot) (bytes : List Byte) : (s.fillSlot k bytes).pt = s.pt := rfl
@[simp] theorem State.fillSlot_cur (s : State) (k : Slot) (bytes : List Byte) : (s.fillSlot k bytes).cur = s.cur := rfl
@[simp] theorem State.fillSlot_duty (s : State) (k : Slot) (bytes : List Byte) : (s.fillSlot k bytes).duty = s.duty := rfl
@[simp] theorem State.fillSlot_pwmIndex (s : State) (k : Slot) (bytes : List Byte) : (s.fillSlot k bytes).pwmIndex = s.pwmIndex := rfl
@[simp] theorem State.fillSlot_portData (s : State) (k : Slot) (bytes : List Byte) : (s.fillSlot k bytes).portData = s.portData := rfl
@[simp] theorem State.fillSlot_rsState (s : State) (k : Slot) (bytes : List Byte) : (s.fillSlot k bytes).rsState = s.rsState := rfl
@[simp] theorem State.fillSlot_rstOe (s : State) (k : Slot) (bytes : List Byte) : (s.fillSlot k bytes).rstOe = s.rstOe := rfl
@[simp] theorem State.fillSlot_wdtArmed (s : State) (k : Slot) (bytes : List Byte) : (s.fillSlot k bytes).wdtArmed = s.wdtArmed := rfl
@[simp] theorem State.fillSlot_events (s : State) (k : Slot) (bytes : List Byte) : (s.fillSlot k bytes).events = s.events := rfl
@[simp] theorem State.fillSlot_out (s : State) (k : Slot) (bytes : List Byte) : (s.fillSlot k bytes).out = s.out := rfl
@[simp] theorem State.fillSlot_freeCount (s : State) (k : Slot) (bytes : List Byte) : (s.fillSlot k bytes).freeCount = s.freeCount := rfl

/-! ### protocolError -/

@[simp] theorem protocolError_dbState (s : State) : (protocolError s).dbState = s.dbState := rfl
@[simp] theorem protocolError_dbCt0 (s : State) : (protocolError s).dbCt0 = s.dbCt0 := rfl
@[simp] theorem protocolError_dbCt1 (s : State) : (protocolError s).dbCt1 = s.dbCt1 := rfl
@[simp] theorem protocolError_pressEdge (s : State) : (protocolError s).pressEdge = s.pressEdge := rfl
@[simp] theorem protocolError_tickCnt (s : State) : (protocolError s).tickCnt = s.tickCnt := rfl
@[simp] theorem protocolError_rxRem (s : State) : (protocolError s).rxRem = 0#4 := rfl
@[simp] theorem protocolError_rxIdx (s : State) : (protocolError s).rxIdx = 0#4 := rfl
@[simp] theorem protocolError_cmdReady (s : State) : (protocolError s).cmdReady = s.cmdReady := rfl
@[simp] theorem protocolError_txData (s : State) : (protocolError s).txData = s.txData := rfl
@[simp] theorem protocolError_buf (s : State) : (protocolError s).buf = s.buf := rfl
@[simp] theorem protocolError_act (s : State) : (protocolError s).act = s.act := rfl
@[simp] theorem protocolError_phase (s : State) : (protocolError s).phase = s.phase := rfl
@[simp] theorem protocolError_pt (s : State) : (protocolError s).pt = s.pt := rfl
@[simp] theorem protocolError_cur (s : State) : (protocolError s).cur = s.cur := rfl
@[simp] theorem protocolError_duty (s : State) : (protocolError s).duty = s.duty := rfl
@[simp] theorem protocolError_pwmIndex (s : State) : (protocolError s).pwmIndex = s.pwmIndex := rfl
@[simp] theorem protocolError_portData (s : State) : (protocolError s).portData = s.portData := rfl
@[simp] theorem protocolError_rsState (s : State) : (protocolError s).rsState = s.rsState := rfl
@[simp] theorem protocolError_rstOe (s : State) : (protocolError s).rstOe = s.rstOe := rfl
@[simp] theorem protocolError_wdtArmed (s : State) : (protocolError s).wdtArmed = s.wdtArmed := rfl
@[simp] theorem protocolError_events (s : State) : (protocolError s).events = s.events := rfl
@[simp] theorem protocolError_out (s : State) : (protocolError s).out = s.out := rfl
@[simp] theorem protocolError_freeCount (s : State) : (protocolError s).freeCount = s.freeCount := rfl

/-! ### loadStatus -/

@[simp] theorem loadStatus_dbState (s : State) : (loadStatus s).dbState = s.dbState := rfl
@[simp] theorem loadStatus_dbCt0 (s : State) : (loadStatus s).dbCt0 = s.dbCt0 := rfl
@[simp] theorem loadStatus_dbCt1 (s : State) : (loadStatus s).dbCt1 = s.dbCt1 := rfl
@[simp] theorem loadStatus_pressEdge (s : State) : (loadStatus s).pressEdge = s.pressEdge := rfl
@[simp] theorem loadStatus_tickCnt (s : State) : (loadStatus s).tickCnt = s.tickCnt := rfl
@[simp] theorem loadStatus_rxRem (s : State) : (loadStatus s).rxRem = s.rxRem := rfl
@[simp] theorem loadStatus_rxIdx (s : State) : (loadStatus s).rxIdx = s.rxIdx := rfl
@[simp] theorem loadStatus_cmdReady (s : State) : (loadStatus s).cmdReady = s.cmdReady := rfl
@[simp] theorem loadStatus_txData (s : State) : (loadStatus s).txData = s.dbState.setWidth 8 := rfl
@[simp] theorem loadStatus_buf (s : State) : (loadStatus s).buf = s.buf := rfl
@[simp] theorem loadStatus_act (s : State) : (loadStatus s).act = s.act := rfl
@[simp] theorem loadStatus_phase (s : State) : (loadStatus s).phase = s.phase := rfl
@[simp] theorem loadStatus_pt (s : State) : (loadStatus s).pt = s.pt := rfl
@[simp] theorem loadStatus_cur (s : State) : (loadStatus s).cur = s.cur := rfl
@[simp] theorem loadStatus_duty (s : State) : (loadStatus s).duty = s.duty := rfl
@[simp] theorem loadStatus_pwmIndex (s : State) : (loadStatus s).pwmIndex = s.pwmIndex := rfl
@[simp] theorem loadStatus_portData (s : State) : (loadStatus s).portData = s.portData := rfl
@[simp] theorem loadStatus_rsState (s : State) : (loadStatus s).rsState = s.rsState := rfl
@[simp] theorem loadStatus_rstOe (s : State) : (loadStatus s).rstOe = s.rstOe := rfl
@[simp] theorem loadStatus_wdtArmed (s : State) : (loadStatus s).wdtArmed = s.wdtArmed := rfl
@[simp] theorem loadStatus_events (s : State) : (loadStatus s).events = s.events := rfl
@[simp] theorem loadStatus_out (s : State) : (loadStatus s).out = { s.out with txLoad := true } := rfl
@[simp] theorem loadStatus_freeCount (s : State) : (loadStatus s).freeCount = s.freeCount := rfl

/-! ### headerCommand -/

@[simp] theorem headerCommand_dbState (n : Nibble) (s : State) : (headerCommand n s).dbState = s.dbState := rfl
@[simp] theorem headerCommand_dbCt0 (n : Nibble) (s : State) : (headerCommand n s).dbCt0 = s.dbCt0 := rfl
@[simp] theorem headerCommand_dbCt1 (n : Nibble) (s : State) : (headerCommand n s).dbCt1 = s.dbCt1 := rfl
@[simp] theorem headerCommand_pressEdge (n : Nibble) (s : State) : (headerCommand n s).pressEdge = s.pressEdge := rfl
@[simp] theorem headerCommand_tickCnt (n : Nibble) (s : State) : (headerCommand n s).tickCnt = s.tickCnt := rfl
@[simp] theorem headerCommand_rxRem (n : Nibble) (s : State) : (headerCommand n s).rxRem = n := rfl
@[simp] theorem headerCommand_rxIdx (n : Nibble) (s : State) : (headerCommand n s).rxIdx = 0#4 := rfl
@[simp] theorem headerCommand_cmdReady (n : Nibble) (s : State) : (headerCommand n s).cmdReady = s.cmdReady := rfl
@[simp] theorem headerCommand_txData (n : Nibble) (s : State) : (headerCommand n s).txData = s.txData := rfl
@[simp] theorem headerCommand_buf (n : Nibble) (s : State) : (headerCommand n s).buf = s.buf := rfl
@[simp] theorem headerCommand_act (n : Nibble) (s : State) : (headerCommand n s).act = s.act := rfl
@[simp] theorem headerCommand_phase (n : Nibble) (s : State) : (headerCommand n s).phase = s.phase := rfl
@[simp] theorem headerCommand_pt (n : Nibble) (s : State) : (headerCommand n s).pt = s.pt := rfl
@[simp] theorem headerCommand_cur (n : Nibble) (s : State) : (headerCommand n s).cur = s.cur := rfl
@[simp] theorem headerCommand_duty (n : Nibble) (s : State) : (headerCommand n s).duty = s.duty := rfl
@[simp] theorem headerCommand_pwmIndex (n : Nibble) (s : State) : (headerCommand n s).pwmIndex = s.pwmIndex := rfl
@[simp] theorem headerCommand_portData (n : Nibble) (s : State) : (headerCommand n s).portData = s.portData := rfl
@[simp] theorem headerCommand_rsState (n : Nibble) (s : State) : (headerCommand n s).rsState = s.rsState := rfl
@[simp] theorem headerCommand_rstOe (n : Nibble) (s : State) : (headerCommand n s).rstOe = s.rstOe := rfl
@[simp] theorem headerCommand_wdtArmed (n : Nibble) (s : State) : (headerCommand n s).wdtArmed = s.wdtArmed := rfl
@[simp] theorem headerCommand_events (n : Nibble) (s : State) : (headerCommand n s).events = s.events := rfl
@[simp] theorem headerCommand_out (n : Nibble) (s : State) : (headerCommand n s).out = s.out := rfl
@[simp] theorem headerCommand_freeCount (n : Nibble) (s : State) : (headerCommand n s).freeCount = s.freeCount := rfl

/-! ### headerIdle -/

@[simp] theorem headerIdle_dbState (s : State) : (headerIdle s).dbState = s.dbState := rfl
@[simp] theorem headerIdle_dbCt0 (s : State) : (headerIdle s).dbCt0 = s.dbCt0 := rfl
@[simp] theorem headerIdle_dbCt1 (s : State) : (headerIdle s).dbCt1 = s.dbCt1 := rfl
@[simp] theorem headerIdle_pressEdge (s : State) : (headerIdle s).pressEdge = s.pressEdge := rfl
@[simp] theorem headerIdle_tickCnt (s : State) : (headerIdle s).tickCnt = s.tickCnt := rfl
@[simp] theorem headerIdle_rxRem (s : State) : (headerIdle s).rxRem = 0#4 := rfl
@[simp] theorem headerIdle_rxIdx (s : State) : (headerIdle s).rxIdx = 0#4 := rfl
@[simp] theorem headerIdle_cmdReady (s : State) : (headerIdle s).cmdReady = s.cmdReady := rfl
@[simp] theorem headerIdle_txData (s : State) : (headerIdle s).txData = s.txData := rfl
@[simp] theorem headerIdle_buf (s : State) : (headerIdle s).buf = s.buf := rfl
@[simp] theorem headerIdle_act (s : State) : (headerIdle s).act = s.act := rfl
@[simp] theorem headerIdle_phase (s : State) : (headerIdle s).phase = s.phase := rfl
@[simp] theorem headerIdle_pt (s : State) : (headerIdle s).pt = s.pt := rfl
@[simp] theorem headerIdle_cur (s : State) : (headerIdle s).cur = s.cur := rfl
@[simp] theorem headerIdle_duty (s : State) : (headerIdle s).duty = s.duty := rfl
@[simp] theorem headerIdle_pwmIndex (s : State) : (headerIdle s).pwmIndex = s.pwmIndex := rfl
@[simp] theorem headerIdle_portData (s : State) : (headerIdle s).portData = s.portData := rfl
@[simp] theorem headerIdle_rsState (s : State) : (headerIdle s).rsState = s.rsState := rfl
@[simp] theorem headerIdle_rstOe (s : State) : (headerIdle s).rstOe = s.rstOe := rfl
@[simp] theorem headerIdle_wdtArmed (s : State) : (headerIdle s).wdtArmed = s.wdtArmed := rfl
@[simp] theorem headerIdle_events (s : State) : (headerIdle s).events = s.events := rfl
@[simp] theorem headerIdle_out (s : State) : (headerIdle s).out = s.out := rfl
@[simp] theorem headerIdle_freeCount (s : State) : (headerIdle s).freeCount = s.freeCount := rfl

/-! ### completeCommand -/

@[simp] theorem completeCommand_dbState (s : State) : (completeCommand s).dbState = s.dbState := rfl
@[simp] theorem completeCommand_dbCt0 (s : State) : (completeCommand s).dbCt0 = s.dbCt0 := rfl
@[simp] theorem completeCommand_dbCt1 (s : State) : (completeCommand s).dbCt1 = s.dbCt1 := rfl
@[simp] theorem completeCommand_pressEdge (s : State) : (completeCommand s).pressEdge = s.pressEdge := rfl
@[simp] theorem completeCommand_tickCnt (s : State) : (completeCommand s).tickCnt = s.tickCnt := rfl
@[simp] theorem completeCommand_rxRem (s : State) : (completeCommand s).rxRem = s.rxRem := rfl
@[simp] theorem completeCommand_rxIdx (s : State) : (completeCommand s).rxIdx = 0#4 := rfl
@[simp] theorem completeCommand_cmdReady (s : State) : (completeCommand s).cmdReady = true := rfl
@[simp] theorem completeCommand_txData (s : State) : (completeCommand s).txData = s.txData := rfl
@[simp] theorem completeCommand_buf (s : State) : (completeCommand s).buf = s.buf := rfl
@[simp] theorem completeCommand_act (s : State) : (completeCommand s).act = s.act := rfl
@[simp] theorem completeCommand_phase (s : State) : (completeCommand s).phase = s.phase := rfl
@[simp] theorem completeCommand_pt (s : State) : (completeCommand s).pt = s.pt := rfl
@[simp] theorem completeCommand_cur (s : State) : (completeCommand s).cur = s.cur := rfl
@[simp] theorem completeCommand_duty (s : State) : (completeCommand s).duty = s.duty := rfl
@[simp] theorem completeCommand_pwmIndex (s : State) : (completeCommand s).pwmIndex = s.pwmIndex := rfl
@[simp] theorem completeCommand_portData (s : State) : (completeCommand s).portData = s.portData := rfl
@[simp] theorem completeCommand_rsState (s : State) : (completeCommand s).rsState = s.rsState := rfl
@[simp] theorem completeCommand_rstOe (s : State) : (completeCommand s).rstOe = s.rstOe := rfl
@[simp] theorem completeCommand_wdtArmed (s : State) : (completeCommand s).wdtArmed = s.wdtArmed := rfl
@[simp] theorem completeCommand_events (s : State) : (completeCommand s).events = s.events := rfl
@[simp] theorem completeCommand_out (s : State) : (completeCommand s).out = s.out := rfl
@[simp] theorem completeCommand_freeCount (s : State) : (completeCommand s).freeCount = s.freeCount := rfl

/-! ### raiseResetFlags -/

@[simp] theorem raiseResetFlags_dbState (s : State) : (raiseResetFlags s).dbState = s.dbState := rfl
@[simp] theorem raiseResetFlags_dbCt0 (s : State) : (raiseResetFlags s).dbCt0 = s.dbCt0 := rfl
@[simp] theorem raiseResetFlags_dbCt1 (s : State) : (raiseResetFlags s).dbCt1 = s.dbCt1 := rfl
@[simp] theorem raiseResetFlags_pressEdge (s : State) : (raiseResetFlags s).pressEdge = s.pressEdge := rfl
@[simp] theorem raiseResetFlags_tickCnt (s : State) : (raiseResetFlags s).tickCnt = s.tickCnt := rfl
@[simp] theorem raiseResetFlags_rxRem (s : State) : (raiseResetFlags s).rxRem = s.rxRem := rfl
@[simp] theorem raiseResetFlags_rxIdx (s : State) : (raiseResetFlags s).rxIdx = s.rxIdx := rfl
@[simp] theorem raiseResetFlags_cmdReady (s : State) : (raiseResetFlags s).cmdReady = true := rfl
@[simp] theorem raiseResetFlags_txData (s : State) : (raiseResetFlags s).txData = s.txData := rfl
@[simp] theorem raiseResetFlags_buf (s : State) : (raiseResetFlags s).buf = s.buf := rfl
@[simp] theorem raiseResetFlags_act (s : State) : (raiseResetFlags s).act = s.act := rfl
@[simp] theorem raiseResetFlags_phase (s : State) : (raiseResetFlags s).phase = s.phase := rfl
@[simp] theorem raiseResetFlags_pt (s : State) : (raiseResetFlags s).pt = s.pt := rfl
@[simp] theorem raiseResetFlags_cur (s : State) : (raiseResetFlags s).cur = s.cur := rfl
@[simp] theorem raiseResetFlags_duty (s : State) : (raiseResetFlags s).duty = s.duty := rfl
@[simp] theorem raiseResetFlags_pwmIndex (s : State) : (raiseResetFlags s).pwmIndex = s.pwmIndex := rfl
@[simp] theorem raiseResetFlags_portData (s : State) : (raiseResetFlags s).portData = s.portData := rfl
@[simp] theorem raiseResetFlags_rsState (s : State) : (raiseResetFlags s).rsState = s.rsState := rfl
@[simp] theorem raiseResetFlags_rstOe (s : State) : (raiseResetFlags s).rstOe = true := rfl
@[simp] theorem raiseResetFlags_wdtArmed (s : State) : (raiseResetFlags s).wdtArmed = true := rfl
@[simp] theorem raiseResetFlags_events (s : State) : (raiseResetFlags s).events = s.events := rfl
@[simp] theorem raiseResetFlags_out (s : State) : (raiseResetFlags s).out = s.out := rfl
@[simp] theorem raiseResetFlags_freeCount (s : State) : (raiseResetFlags s).freeCount = s.freeCount := rfl

/-! ### clearReady -/

@[simp] theorem clearReady_dbState (s : State) : (clearReady s).dbState = s.dbState := rfl
@[simp] theorem clearReady_dbCt0 (s : State) : (clearReady s).dbCt0 = s.dbCt0 := rfl
@[simp] theorem clearReady_dbCt1 (s : State) : (clearReady s).dbCt1 = s.dbCt1 := rfl
@[simp] theorem clearReady_pressEdge (s : State) : (clearReady s).pressEdge = s.pressEdge := rfl
@[simp] theorem clearReady_tickCnt (s : State) : (clearReady s).tickCnt = s.tickCnt := rfl
@[simp] theorem clearReady_rxRem (s : State) : (clearReady s).rxRem = s.rxRem := rfl
@[simp] theorem clearReady_rxIdx (s : State) : (clearReady s).rxIdx = s.rxIdx := rfl
@[simp] theorem clearReady_cmdReady (s : State) : (clearReady s).cmdReady = false := rfl
@[simp] theorem clearReady_txData (s : State) : (clearReady s).txData = s.txData := rfl
@[simp] theorem clearReady_buf (s : State) : (clearReady s).buf = s.buf := rfl
@[simp] theorem clearReady_act (s : State) : (clearReady s).act = s.act := rfl
@[simp] theorem clearReady_phase (s : State) : (clearReady s).phase = s.phase := rfl
@[simp] theorem clearReady_pt (s : State) : (clearReady s).pt = s.pt := rfl
@[simp] theorem clearReady_cur (s : State) : (clearReady s).cur = s.cur := rfl
@[simp] theorem clearReady_duty (s : State) : (clearReady s).duty = s.duty := rfl
@[simp] theorem clearReady_pwmIndex (s : State) : (clearReady s).pwmIndex = s.pwmIndex := rfl
@[simp] theorem clearReady_portData (s : State) : (clearReady s).portData = s.portData := rfl
@[simp] theorem clearReady_rsState (s : State) : (clearReady s).rsState = s.rsState := rfl
@[simp] theorem clearReady_rstOe (s : State) : (clearReady s).rstOe = s.rstOe := rfl
@[simp] theorem clearReady_wdtArmed (s : State) : (clearReady s).wdtArmed = s.wdtArmed := rfl
@[simp] theorem clearReady_events (s : State) : (clearReady s).events = s.events := rfl
@[simp] theorem clearReady_out (s : State) : (clearReady s).out = s.out := rfl
@[simp] theorem clearReady_freeCount (s : State) : (clearReady s).freeCount = s.freeCount := rfl

/-! ### clearEdges -/

@[simp] theorem clearEdges_dbState (m : Btn) (s : State) : (clearEdges m s).dbState = s.dbState := rfl
@[simp] theorem clearEdges_dbCt0 (m : Btn) (s : State) : (clearEdges m s).dbCt0 = s.dbCt0 := rfl
@[simp] theorem clearEdges_dbCt1 (m : Btn) (s : State) : (clearEdges m s).dbCt1 = s.dbCt1 := rfl
@[simp] theorem clearEdges_pressEdge (m : Btn) (s : State) : (clearEdges m s).pressEdge = s.pressEdge &&& ~~~m := rfl
@[simp] theorem clearEdges_tickCnt (m : Btn) (s : State) : (clearEdges m s).tickCnt = s.tickCnt := rfl
@[simp] theorem clearEdges_rxRem (m : Btn) (s : State) : (clearEdges m s).rxRem = s.rxRem := rfl
@[simp] theorem clearEdges_rxIdx (m : Btn) (s : State) : (clearEdges m s).rxIdx = s.rxIdx := rfl
@[simp] theorem clearEdges_cmdReady (m : Btn) (s : State) : (clearEdges m s).cmdReady = s.cmdReady := rfl
@[simp] theorem clearEdges_txData (m : Btn) (s : State) : (clearEdges m s).txData = s.txData := rfl
@[simp] theorem clearEdges_buf (m : Btn) (s : State) : (clearEdges m s).buf = s.buf := rfl
@[simp] theorem clearEdges_act (m : Btn) (s : State) : (clearEdges m s).act = s.act := rfl
@[simp] theorem clearEdges_phase (m : Btn) (s : State) : (clearEdges m s).phase = s.phase := rfl
@[simp] theorem clearEdges_pt (m : Btn) (s : State) : (clearEdges m s).pt = s.pt := rfl
@[simp] theorem clearEdges_cur (m : Btn) (s : State) : (clearEdges m s).cur = s.cur := rfl
@[simp] theorem clearEdges_duty (m : Btn) (s : State) : (clearEdges m s).duty = s.duty := rfl
@[simp] theorem clearEdges_pwmIndex (m : Btn) (s : State) : (clearEdges m s).pwmIndex = s.pwmIndex := rfl
@[simp] theorem clearEdges_portData (m : Btn) (s : State) : (clearEdges m s).portData = s.portData := rfl
@[simp] theorem clearEdges_rsState (m : Btn) (s : State) : (clearEdges m s).rsState = s.rsState := rfl
@[simp] theorem clearEdges_rstOe (m : Btn) (s : State) : (clearEdges m s).rstOe = s.rstOe := rfl
@[simp] theorem clearEdges_wdtArmed (m : Btn) (s : State) : (clearEdges m s).wdtArmed = s.wdtArmed := rfl
@[simp] theorem clearEdges_events (m : Btn) (s : State) : (clearEdges m s).events = s.events := rfl
@[simp] theorem clearEdges_out (m : Btn) (s : State) : (clearEdges m s).out = s.out := rfl
@[simp] theorem clearEdges_freeCount (m : Btn) (s : State) : (clearEdges m s).freeCount = s.freeCount := rfl

/-! ### rampChannels -/

@[simp] theorem rampChannels_dbState (s : State) : (rampChannels s).dbState = s.dbState := rfl
@[simp] theorem rampChannels_dbCt0 (s : State) : (rampChannels s).dbCt0 = s.dbCt0 := rfl
@[simp] theorem rampChannels_dbCt1 (s : State) : (rampChannels s).dbCt1 = s.dbCt1 := rfl
@[simp] theorem rampChannels_pressEdge (s : State) : (rampChannels s).pressEdge = s.pressEdge := rfl
@[simp] theorem rampChannels_tickCnt (s : State) : (rampChannels s).tickCnt = s.tickCnt := rfl
@[simp] theorem rampChannels_rxRem (s : State) : (rampChannels s).rxRem = s.rxRem := rfl
@[simp] theorem rampChannels_rxIdx (s : State) : (rampChannels s).rxIdx = s.rxIdx := rfl
@[simp] theorem rampChannels_cmdReady (s : State) : (rampChannels s).cmdReady = s.cmdReady := rfl
@[simp] theorem rampChannels_txData (s : State) : (rampChannels s).txData = s.txData := rfl
@[simp] theorem rampChannels_buf (s : State) : (rampChannels s).buf = s.buf := rfl
@[simp] theorem rampChannels_act (s : State) : (rampChannels s).act = s.act := rfl
@[simp] theorem rampChannels_phase (s : State) : (rampChannels s).phase = s.phase := rfl
@[simp] theorem rampChannels_pt (s : State) : (rampChannels s).pt = s.pt := rfl
@[simp] theorem rampChannels_cur (s : State) : (rampChannels s).cur = Rgb.of fun c => ramp (s.cur.get c) (s.phaseField c.field) (effectiveSlew (s.phaseField .slew)) := rfl
@[simp] theorem rampChannels_duty (s : State) : (rampChannels s).duty = s.duty := rfl
@[simp] theorem rampChannels_pwmIndex (s : State) : (rampChannels s).pwmIndex = s.pwmIndex := rfl
@[simp] theorem rampChannels_portData (s : State) : (rampChannels s).portData = s.portData := rfl
@[simp] theorem rampChannels_rsState (s : State) : (rampChannels s).rsState = s.rsState := rfl
@[simp] theorem rampChannels_rstOe (s : State) : (rampChannels s).rstOe = s.rstOe := rfl
@[simp] theorem rampChannels_wdtArmed (s : State) : (rampChannels s).wdtArmed = s.wdtArmed := rfl
@[simp] theorem rampChannels_events (s : State) : (rampChannels s).events = s.events := rfl
@[simp] theorem rampChannels_out (s : State) : (rampChannels s).out = s.out := rfl
@[simp] theorem rampChannels_freeCount (s : State) : (rampChannels s).freeCount = s.freeCount := rfl

/-! ### publishDuty -/

@[simp] theorem publishDuty_dbState (s : State) : (publishDuty s).dbState = s.dbState := rfl
@[simp] theorem publishDuty_dbCt0 (s : State) : (publishDuty s).dbCt0 = s.dbCt0 := rfl
@[simp] theorem publishDuty_dbCt1 (s : State) : (publishDuty s).dbCt1 = s.dbCt1 := rfl
@[simp] theorem publishDuty_pressEdge (s : State) : (publishDuty s).pressEdge = s.pressEdge := rfl
@[simp] theorem publishDuty_tickCnt (s : State) : (publishDuty s).tickCnt = s.tickCnt := rfl
@[simp] theorem publishDuty_rxRem (s : State) : (publishDuty s).rxRem = s.rxRem := rfl
@[simp] theorem publishDuty_rxIdx (s : State) : (publishDuty s).rxIdx = s.rxIdx := rfl
@[simp] theorem publishDuty_cmdReady (s : State) : (publishDuty s).cmdReady = s.cmdReady := rfl
@[simp] theorem publishDuty_txData (s : State) : (publishDuty s).txData = s.txData := rfl
@[simp] theorem publishDuty_buf (s : State) : (publishDuty s).buf = s.buf := rfl
@[simp] theorem publishDuty_act (s : State) : (publishDuty s).act = s.act := rfl
@[simp] theorem publishDuty_phase (s : State) : (publishDuty s).phase = s.phase := rfl
@[simp] theorem publishDuty_pt (s : State) : (publishDuty s).pt = s.pt := rfl
@[simp] theorem publishDuty_cur (s : State) : (publishDuty s).cur = s.cur := rfl
@[simp] theorem publishDuty_duty (s : State) : (publishDuty s).duty = Rgb.of fun c => lin (s.cur.get c) := rfl
@[simp] theorem publishDuty_pwmIndex (s : State) : (publishDuty s).pwmIndex = s.pwmIndex := rfl
@[simp] theorem publishDuty_portData (s : State) : (publishDuty s).portData = s.portData := rfl
@[simp] theorem publishDuty_rsState (s : State) : (publishDuty s).rsState = s.rsState := rfl
@[simp] theorem publishDuty_rstOe (s : State) : (publishDuty s).rstOe = s.rstOe := rfl
@[simp] theorem publishDuty_wdtArmed (s : State) : (publishDuty s).wdtArmed = s.wdtArmed := rfl
@[simp] theorem publishDuty_events (s : State) : (publishDuty s).events = s.events := rfl
@[simp] theorem publishDuty_out (s : State) : (publishDuty s).out = s.out := rfl
@[simp] theorem publishDuty_freeCount (s : State) : (publishDuty s).freeCount = s.freeCount := rfl

/-! ### swap -/

@[simp] theorem swap_dbState (s : State) : (swap s).dbState = s.dbState := rfl
@[simp] theorem swap_dbCt0 (s : State) : (swap s).dbCt0 = s.dbCt0 := rfl
@[simp] theorem swap_dbCt1 (s : State) : (swap s).dbCt1 = s.dbCt1 := rfl
@[simp] theorem swap_pressEdge (s : State) : (swap s).pressEdge = s.pressEdge := rfl
@[simp] theorem swap_tickCnt (s : State) : (swap s).tickCnt = s.tickCnt := rfl
@[simp] theorem swap_rxRem (s : State) : (swap s).rxRem = s.rxRem := rfl
@[simp] theorem swap_rxIdx (s : State) : (swap s).rxIdx = s.rxIdx := rfl
@[simp] theorem swap_cmdReady (s : State) : (swap s).cmdReady = false := rfl
@[simp] theorem swap_txData (s : State) : (swap s).txData = s.txData := rfl
@[simp] theorem swap_buf (s : State) : (swap s).buf = s.buf.writeBytes s.act.base (List.replicate Config.bufLen 0x00#8) := rfl
@[simp] theorem swap_act (s : State) : (swap s).act = s.act.other := rfl
@[simp] theorem swap_phase (s : State) : (swap s).phase = .zero := rfl
@[simp] theorem swap_pt (s : State) : (swap s).pt = 0#8 := rfl
@[simp] theorem swap_cur (s : State) : (swap s).cur = s.cur := rfl
@[simp] theorem swap_duty (s : State) : (swap s).duty = s.duty := rfl
@[simp] theorem swap_pwmIndex (s : State) : (swap s).pwmIndex = s.pwmIndex := rfl
@[simp] theorem swap_portData (s : State) : (swap s).portData = s.portData := rfl
@[simp] theorem swap_rsState (s : State) : (swap s).rsState = s.rsState := rfl
@[simp] theorem swap_rstOe (s : State) : (swap s).rstOe = s.rstOe := rfl
@[simp] theorem swap_wdtArmed (s : State) : (swap s).wdtArmed = s.wdtArmed := rfl
@[simp] theorem swap_events (s : State) : (swap s).events = s.events := rfl
@[simp] theorem swap_out (s : State) : (swap s).out = s.out := rfl
@[simp] theorem swap_freeCount (s : State) : (swap s).freeCount = s.freeCount := rfl

/-! ### resetEnter -/

@[simp] theorem resetEnter_dbState (s : State) : (resetEnter s).dbState = s.dbState := by cases s; rfl
@[simp] theorem resetEnter_dbCt0 (s : State) : (resetEnter s).dbCt0 = s.dbCt0 := by cases s; rfl
@[simp] theorem resetEnter_dbCt1 (s : State) : (resetEnter s).dbCt1 = s.dbCt1 := by cases s; rfl
@[simp] theorem resetEnter_pressEdge (s : State) : (resetEnter s).pressEdge = s.pressEdge := by cases s; rfl
@[simp] theorem resetEnter_tickCnt (s : State) : (resetEnter s).tickCnt = s.tickCnt := by cases s; rfl
@[simp] theorem resetEnter_rxRem (s : State) : (resetEnter s).rxRem = s.rxRem := by cases s; rfl
@[simp] theorem resetEnter_rxIdx (s : State) : (resetEnter s).rxIdx = s.rxIdx := by cases s; rfl
@[simp] theorem resetEnter_cmdReady (s : State) : (resetEnter s).cmdReady = true := by cases s; rfl
@[simp] theorem resetEnter_txData (s : State) : (resetEnter s).txData = s.txData := by cases s; rfl
@[simp] theorem resetEnter_buf (s : State) : (resetEnter s).buf = s.buf.writeBytes s.inactive.base flashPattern := by cases s; rfl
@[simp] theorem resetEnter_act (s : State) : (resetEnter s).act = s.act := by cases s; rfl
@[simp] theorem resetEnter_phase (s : State) : (resetEnter s).phase = s.phase := by cases s; rfl
@[simp] theorem resetEnter_pt (s : State) : (resetEnter s).pt = s.pt := by cases s; rfl
@[simp] theorem resetEnter_cur (s : State) : (resetEnter s).cur = s.cur := by cases s; rfl
@[simp] theorem resetEnter_duty (s : State) : (resetEnter s).duty = s.duty := by cases s; rfl
@[simp] theorem resetEnter_pwmIndex (s : State) : (resetEnter s).pwmIndex = s.pwmIndex := by cases s; rfl
@[simp] theorem resetEnter_portData (s : State) : (resetEnter s).portData = s.portData := by cases s; rfl
@[simp] theorem resetEnter_rsState (s : State) : (resetEnter s).rsState = .resetting := by cases s; rfl
@[simp] theorem resetEnter_rstOe (s : State) : (resetEnter s).rstOe = true := by cases s; rfl
@[simp] theorem resetEnter_wdtArmed (s : State) : (resetEnter s).wdtArmed = true := by cases s; rfl
@[simp] theorem resetEnter_events (s : State) : (resetEnter s).events = s.events := by cases s; rfl
@[simp] theorem resetEnter_out (s : State) : (resetEnter s).out = s.out := by cases s; rfl
@[simp] theorem resetEnter_freeCount (s : State) : (resetEnter s).freeCount = s.freeCount := by cases s; rfl

/-! ### dbUpdate -/

@[simp] theorem dbUpdate_dbState (v : Btn) (s : State) : (dbUpdate v s).dbState = btnOf fun i => ((s.lane i).update (v.getLsbD i.val)).state := rfl
@[simp] theorem dbUpdate_dbCt0 (v : Btn) (s : State) : (dbUpdate v s).dbCt0 = btnOf fun i => ((s.lane i).update (v.getLsbD i.val)).ct0 := rfl
@[simp] theorem dbUpdate_dbCt1 (v : Btn) (s : State) : (dbUpdate v s).dbCt1 = btnOf fun i => ((s.lane i).update (v.getLsbD i.val)).ct1 := rfl
@[simp] theorem dbUpdate_pressEdge (v : Btn) (s : State) : (dbUpdate v s).pressEdge = btnOf fun i => ((s.lane i).update (v.getLsbD i.val)).edge := rfl
@[simp] theorem dbUpdate_tickCnt (v : Btn) (s : State) : (dbUpdate v s).tickCnt = s.tickCnt := rfl
@[simp] theorem dbUpdate_rxRem (v : Btn) (s : State) : (dbUpdate v s).rxRem = s.rxRem := rfl
@[simp] theorem dbUpdate_rxIdx (v : Btn) (s : State) : (dbUpdate v s).rxIdx = s.rxIdx := rfl
@[simp] theorem dbUpdate_cmdReady (v : Btn) (s : State) : (dbUpdate v s).cmdReady = s.cmdReady := rfl
@[simp] theorem dbUpdate_txData (v : Btn) (s : State) : (dbUpdate v s).txData = s.txData := rfl
@[simp] theorem dbUpdate_buf (v : Btn) (s : State) : (dbUpdate v s).buf = s.buf := rfl
@[simp] theorem dbUpdate_act (v : Btn) (s : State) : (dbUpdate v s).act = s.act := rfl
@[simp] theorem dbUpdate_phase (v : Btn) (s : State) : (dbUpdate v s).phase = s.phase := rfl
@[simp] theorem dbUpdate_pt (v : Btn) (s : State) : (dbUpdate v s).pt = s.pt := rfl
@[simp] theorem dbUpdate_cur (v : Btn) (s : State) : (dbUpdate v s).cur = s.cur := rfl
@[simp] theorem dbUpdate_duty (v : Btn) (s : State) : (dbUpdate v s).duty = s.duty := rfl
@[simp] theorem dbUpdate_pwmIndex (v : Btn) (s : State) : (dbUpdate v s).pwmIndex = s.pwmIndex := rfl
@[simp] theorem dbUpdate_portData (v : Btn) (s : State) : (dbUpdate v s).portData = s.portData := rfl
@[simp] theorem dbUpdate_rsState (v : Btn) (s : State) : (dbUpdate v s).rsState = s.rsState := rfl
@[simp] theorem dbUpdate_rstOe (v : Btn) (s : State) : (dbUpdate v s).rstOe = s.rstOe := rfl
@[simp] theorem dbUpdate_wdtArmed (v : Btn) (s : State) : (dbUpdate v s).wdtArmed = s.wdtArmed := rfl
@[simp] theorem dbUpdate_events (v : Btn) (s : State) : (dbUpdate v s).events = s.events := rfl
@[simp] theorem dbUpdate_out (v : Btn) (s : State) : (dbUpdate v s).out = s.out := rfl
@[simp] theorem dbUpdate_freeCount (v : Btn) (s : State) : (dbUpdate v s).freeCount = s.freeCount := rfl

end Sys2Proof.Machine
end

