-- ==== Sys2Proof/Laws/Buffer.lean ====
section
/-! SUPPORT. The command-buffer space: read after write, the canonical form, addresses. -/

namespace Sys2Proof.Machine

/-! ### Addresses -/

@[simp] theorem Slot.other_other (k : Slot) : k.other.other = k := by cases k <;> rfl

@[simp] theorem Slot.other_ne (k : Slot) : k.other ≠ k := by cases k <;> decide

@[simp] theorem Slot.ne_other (k : Slot) : k ≠ k.other := by cases k <;> decide

theorem Slot.eq_other_of_ne {j k : Slot} (h : j ≠ k) : j = k.other := by cases j <;> cases k <;> simp_all [Slot.other]

@[simp] theorem PhaseIx.other_other (p : PhaseIx) : p.other.other = p := by cases p <;> rfl

@[simp] theorem PhaseIx.other_ne (p : PhaseIx) : p.other ≠ p := by cases p <;> decide

theorem BufAddr.cell_lt (a : BufAddr) : a.cell < Memory.size := by
  rcases a with ⟨_ | _, k⟩ <;> simp [BufAddr.cell, Slot.base, Memory.size] <;> omega

theorem BufAddr.cell_injective {a b : BufAddr} (h : a.cell = b.cell) : a = b := by
  rcases a with ⟨_ | _, j⟩ <;> rcases b with ⟨_ | _, k⟩ <;> simp [BufAddr.cell, Slot.base] at h ⊢ <;> omega

theorem BufAddr.cell_ne {a b : BufAddr} (h : a ≠ b) : a.cell ≠ b.cell := fun e => h (BufAddr.cell_injective e)

/-- A slot's ten cells are those from its base on. -/
theorem BufAddr.base_le_cell (a : BufAddr) : a.slot.base ≤ a.cell ∧ a.cell < a.slot.base + 10 := by
  have := a.index.isLt
  simp [BufAddr.cell, this]

/-- No cell of one slot is a cell of the other. -/
theorem BufAddr.cell_outside_other (a : BufAddr) :
    a.cell < a.slot.other.base ∨ a.slot.other.base + 10 ≤ a.cell := by
  rcases a with ⟨_ | _, k⟩ <;> simp [BufAddr.cell, Slot.base, Slot.other]

/-! ### One byte -/

@[simp] theorem Memory.read_nil (a : Nat) : Memory.read [] a = Memory.unlisted := rfl

theorem Memory.read_erase (m : Memory) (a c : Nat) :
    (m.erase a).read c = if c = a then Memory.unlisted else m.read c := by
  induction m with
  | nil => simp [Memory.erase]
  | cons d m ih =>
    by_cases hd : d.1 = a <;> by_cases hc : c = a <;> simp_all [Memory.erase, Memory.read]
    intro h; exact absurd h.symm hc

theorem Memory.read_insert_of_absent (m : Memory) (a : Nat) (b : Byte) (h : ∀ d ∈ m, d.1 ≠ a) (c : Nat) :
    (m.insert a b).read c = if c = a then b else m.read c := by
  induction m with
  | nil => simp [Memory.insert, Memory.read, eq_comm]
  | cons d m ih =>
    have hd := h d (by simp)
    have ih := ih fun e he => h e (by simp [he])
    unfold Memory.insert
    by_cases hlt : a < d.1
    · rw [if_pos hlt]
      by_cases hc : a = c
      · simp [Memory.read, hc]
      · simp [Memory.read, hc, Ne.symm hc]
    · rw [if_neg hlt]
      by_cases hdc : d.1 = c
      · have : c ≠ a := fun e => hd (hdc.trans e)
        simp [Memory.read, hdc, this]
      · simp only [Memory.read, if_neg hdc, ih]

theorem Memory.mem_erase {m : Memory} {a : Nat} {d : Host.Cell} : d ∈ m.erase a ↔ d ∈ m ∧ d.1 ≠ a := by
  induction m with
  | nil => simp [Memory.erase]
  | cons e m ih =>
    by_cases he : e.1 = a
    · simp only [Memory.erase, he, if_true, ih, List.mem_cons]
      constructor
      · rintro ⟨h, ha⟩; exact ⟨.inr h, ha⟩
      · rintro ⟨rfl | h, ha⟩
        · exact absurd he ha
        · exact ⟨h, ha⟩
    · simp only [Memory.erase, he, if_false, List.mem_cons, ih]
      constructor
      · rintro (rfl | ⟨h, ha⟩)
        · exact ⟨.inl rfl, he⟩
        · exact ⟨.inr h, ha⟩
      · rintro ⟨rfl | h, ha⟩
        · exact .inl rfl
        · exact .inr ⟨h, ha⟩

/-- What a byte reads as after a write, everywhere. -/
theorem Memory.read_write (m : Memory) (a : Nat) (b : Byte) (c : Nat) :
    (m.write a b).read c = if c = a then b else m.read c := by
  unfold Memory.write
  split
  · next h => subst h; exact Memory.read_erase m a c
  · rw [Memory.read_insert_of_absent _ _ _ fun d hd => (Memory.mem_erase.1 hd).2, Memory.read_erase]
    split <;> rfl

/-- What a byte reads as after a run of writes, everywhere. -/
theorem Memory.read_writeBytes (bs : List Byte) (m : Memory) (a c : Nat) :
    (m.writeBytes a bs).read c =
      if a ≤ c ∧ c < a + bs.length then bs.getD (c - a) Memory.unlisted else m.read c := by
  induction bs generalizing m a with
  | nil => simp [Memory.writeBytes]
  | cons b bs ih =>
    rw [Memory.writeBytes, ih, Memory.read_write]
    by_cases hc : c = a
    · subst hc; simp
    · by_cases h : a + 1 ≤ c ∧ c < a + 1 + bs.length
      · obtain ⟨k, rfl⟩ : ∃ k, c = a + 1 + k := ⟨c - (a + 1), by omega⟩
        have e1 : a + 1 + k - (a + 1) = k := by omega
        have e2 : a + 1 + k - a = k + 1 := by omega
        rw [if_pos h, if_pos (by simp; omega), e1, e2, List.getD_cons_succ]
      · rw [if_neg h, if_neg hc, if_neg (by simp; omega)]

/-! ### The canonical form -/

theorem Memory.wf_erase {m : Memory} (h : Memory.wf m) (a : Nat) : Memory.wf (m.erase a) := by
  refine ⟨?_, fun d hd => h.2 d (Memory.mem_erase.1 hd).1⟩
  have hs : (m.erase a).Sublist m := by
    clear h
    induction m with
    | nil => exact List.Sublist.refl _
    | cons e m ih =>
      unfold Memory.erase
      split
      · exact ih.cons e
      · exact ih.cons_cons e
  exact h.1.sublist hs

theorem Memory.mem_insert {m : Memory} {a : Nat} {b : Byte} {d : Host.Cell} :
    d ∈ m.insert a b ↔ d = (a, b) ∨ d ∈ m := by
  induction m with
  | nil => simp [Memory.insert]
  | cons e m ih =>
    unfold Memory.insert
    split
    · simp
    · simp only [List.mem_cons, ih]
      constructor
      · rintro (h | h | h)
        · exact .inr (.inl h)
        · exact .inl h
        · exact .inr (.inr h)
      · rintro (h | h | h)
        · exact .inr (.inl h)
        · exact .inl h
        · exact .inr (.inr h)

theorem Memory.wf_insert {m : Memory} {a : Nat} {b : Byte} (h : Memory.wf m) (ha : a < Memory.size)
    (hb : b ≠ Memory.unlisted) (habs : ∀ d ∈ m, d.1 ≠ a) : Memory.wf (m.insert a b) := by
  refine ⟨?_, ?_⟩
  · replace h := h.1
    induction m with
    | nil => simp [Memory.insert]
    | cons e m ih =>
      have he := habs e (by simp)
      rw [List.pairwise_cons] at h
      unfold Memory.insert
      split
      · next hlt =>
        rw [List.pairwise_cons]
        refine ⟨fun d hd => ?_, List.pairwise_cons.2 h⟩
        rcases List.mem_cons.1 hd with rfl | hd
        · exact hlt
        · exact Nat.lt_trans hlt (h.1 d hd)
      · next hlt =>
        rw [List.pairwise_cons]
        refine ⟨fun d hd => ?_, ih (fun d hd => habs d (by simp [hd])) h.2⟩
        rcases Memory.mem_insert.1 hd with rfl | hd
        · show e.1 < a
          omega
        · exact h.1 d hd
  · intro d hd
    rcases Memory.mem_insert.1 hd with rfl | hd
    · exact ⟨ha, hb⟩
    · exact h.2 d hd

theorem Memory.wf_write {m : Memory} (h : Memory.wf m) {a : Nat} (ha : a < Memory.size) (b : Byte) :
    Memory.wf (m.write a b) := by
  unfold Memory.write
  split
  · exact Memory.wf_erase h a
  · next hb => exact Memory.wf_insert (Memory.wf_erase h a) ha hb fun d hd => (Memory.mem_erase.1 hd).2

theorem Memory.wf_writeBytes (bs : List Byte) {m : Memory} (h : Memory.wf m) {a : Nat}
    (ha : a + bs.length ≤ Memory.size) : Memory.wf (m.writeBytes a bs) := by
  induction bs generalizing m a with
  | nil => exact h
  | cons b bs ih =>
    simp only [List.length_cons] at ha
    exact ih (Memory.wf_write h (by omega) b) (by omega)

theorem reset_buf_wf : Memory.wf State.reset.buf := by decide

/-! ### A byte of a slot -/

@[simp] theorem State.readBuf_writeBuf (s : State) (a c : BufAddr) (v : Byte) :
    (s.writeBuf a v).readBuf c = if c = a then v else s.readBuf c := by
  simp only [State.readBuf, State.writeBuf_buf, Memory.read_write]
  by_cases h : c = a
  · simp [h]
  · simp [h, BufAddr.cell_ne h]

/-- A byte after the whole of a slot is written. -/
theorem State.readBuf_fillSlot (s : State) (k : Slot) (bytes : List Byte) (hb : bytes.length = 10) (a : BufAddr) :
    (s.fillSlot k bytes).readBuf a =
      if a.slot = k then bytes.getD a.index.val Memory.unlisted else s.readBuf a := by
  simp only [State.readBuf, State.fillSlot_buf, Memory.read_writeBytes, hb]
  by_cases h : a.slot = k
  · subst h
    have := a.base_le_cell
    rw [if_pos this, if_pos rfl]
    simp [BufAddr.cell]
  · obtain rfl : k = a.slot.other := Slot.eq_other_of_ne (Ne.symm h)
    have := a.cell_outside_other
    rw [if_neg (by omega), if_neg h]

/-- A cell beyond the space is not written when a slot is. -/
theorem State.read_fillSlot_beyond (s : State) (k : Slot) (bytes : List Byte) (hb : bytes.length = 10) {c : Nat}
    (hc : 20 ≤ c) : (s.fillSlot k bytes).buf.read c = s.buf.read c := by
  rw [State.fillSlot_buf, Memory.read_writeBytes, hb, if_neg]
  cases k <;> simp [Slot.base] <;> omega

theorem State.wf_fillSlot {s : State} (h : Memory.wf s.buf) (k : Slot) (bytes : List Byte) (hb : bytes.length = 10) :
    Memory.wf (s.fillSlot k bytes).buf :=
  Memory.wf_writeBytes bytes h (by cases k <;> simp [Slot.base, Memory.size, hb])

theorem State.wf_writeBuf {s : State} (h : Memory.wf s.buf) (a : BufAddr) (v : Byte) :
    Memory.wf (s.writeBuf a v).buf := Memory.wf_write h a.cell_lt v

theorem flashPattern_length : flashPattern.length = 10 := rfl

end Sys2Proof.Machine
end

