-- ==== Sys2Proof/Laws/Untouched.lean ====
section
/-! SUPPORT. For each operation that branches, the registers it never touches, whichever branch is taken. -/

namespace Sys2Proof.Machine

/-! ### swapIfReady -/

@[simp] theorem swapIfReady_dbState (s : State) : (swapIfReady s).dbState = s.dbState := by
  unfold swapIfReady; split <;> simp
@[simp] theorem swapIfReady_dbCt0 (s : State) : (swapIfReady s).dbCt0 = s.dbCt0 := by
  unfold swapIfReady; split <;> simp
@[simp] theorem swapIfReady_dbCt1 (s : State) : (swapIfReady s).dbCt1 = s.dbCt1 := by
  unfold swapIfReady; split <;> simp
@[simp] theorem swapIfReady_pressEdge (s : State) : (swapIfReady s).pressEdge = s.pressEdge := by
  unfold swapIfReady; split <;> simp
@[simp] theorem swapIfReady_tickCnt (s : State) : (swapIfReady s).tickCnt = s.tickCnt := by
  unfold swapIfReady; split <;> simp
@[simp] theorem swapIfReady_rxRem (s : State) : (swapIfReady s).rxRem = s.rxRem := by
  unfold swapIfReady; split <;> simp
@[simp] theorem swapIfReady_rxIdx (s : State) : (swapIfReady s).rxIdx = s.rxIdx := by
  unfold swapIfReady; split <;> simp
@[simp] theorem swapIfReady_txData (s : State) : (swapIfReady s).txData = s.txData := by
  unfold swapIfReady; split <;> simp
@[simp] theorem swapIfReady_cur (s : State) : (swapIfReady s).cur = s.cur := by
  unfold swapIfReady; split <;> simp
@[simp] theorem swapIfReady_duty (s : State) : (swapIfReady s).duty = s.duty := by
  unfold swapIfReady; split <;> simp
@[simp] theorem swapIfReady_pwmIndex (s : State) : (swapIfReady s).pwmIndex = s.pwmIndex := by
  unfold swapIfReady; split <;> simp
@[simp] theorem swapIfReady_portData (s : State) : (swapIfReady s).portData = s.portData := by
  unfold swapIfReady; split <;> simp
@[simp] theorem swapIfReady_rsState (s : State) : (swapIfReady s).rsState = s.rsState := by
  unfold swapIfReady; split <;> simp
@[simp] theorem swapIfReady_rstOe (s : State) : (swapIfReady s).rstOe = s.rstOe := by
  unfold swapIfReady; split <;> simp
@[simp] theorem swapIfReady_wdtArmed (s : State) : (swapIfReady s).wdtArmed = s.wdtArmed := by
  unfold swapIfReady; split <;> simp
@[simp] theorem swapIfReady_events (s : State) : (swapIfReady s).events = s.events := by
  unfold swapIfReady; split <;> simp
@[simp] theorem swapIfReady_out (s : State) : (swapIfReady s).out = s.out := by
  unfold swapIfReady; split <;> simp
@[simp] theorem swapIfReady_freeCount (s : State) : (swapIfReady s).freeCount = s.freeCount := by
  unfold swapIfReady; split <;> simp

/-! ### phaseStep -/

@[simp] theorem phaseStep_dbState (time : Byte) (s : State) : (phaseStep time s).dbState = s.dbState := by
  unfold phaseStep; repeat' split
  all_goals rfl
@[simp] theorem phaseStep_dbCt0 (time : Byte) (s : State) : (phaseStep time s).dbCt0 = s.dbCt0 := by
  unfold phaseStep; repeat' split
  all_goals rfl
@[simp] theorem phaseStep_dbCt1 (time : Byte) (s : State) : (phaseStep time s).dbCt1 = s.dbCt1 := by
  unfold phaseStep; repeat' split
  all_goals rfl
@[simp] theorem phaseStep_pressEdge (time : Byte) (s : State) : (phaseStep time s).pressEdge = s.pressEdge := by
  unfold phaseStep; repeat' split
  all_goals rfl
@[simp] theorem phaseStep_tickCnt (time : Byte) (s : State) : (phaseStep time s).tickCnt = s.tickCnt := by
  unfold phaseStep; repeat' split
  all_goals rfl
@[simp] theorem phaseStep_rxRem (time : Byte) (s : State) : (phaseStep time s).rxRem = s.rxRem := by
  unfold phaseStep; repeat' split
  all_goals rfl
@[simp] theorem phaseStep_rxIdx (time : Byte) (s : State) : (phaseStep time s).rxIdx = s.rxIdx := by
  unfold phaseStep; repeat' split
  all_goals rfl
@[simp] theorem phaseStep_cmdReady (time : Byte) (s : State) : (phaseStep time s).cmdReady = s.cmdReady := by
  unfold phaseStep; repeat' split
  all_goals rfl
@[simp] theorem phaseStep_txData (time : Byte) (s : State) : (phaseStep time s).txData = s.txData := by
  unfold phaseStep; repeat' split
  all_goals rfl
@[simp] theorem phaseStep_buf (time : Byte) (s : State) : (phaseStep time s).buf = s.buf := by
  unfold phaseStep; repeat' split
  all_goals rfl
@[simp] theorem phaseStep_act (time : Byte) (s : State) : (phaseStep time s).act = s.act := by
  unfold phaseStep; repeat' split
  all_goals rfl
@[simp] theorem phaseStep_cur (time : Byte) (s : State) : (phaseStep time s).cur = s.cur := by
  unfold phaseStep; repeat' split
  all_goals rfl
@[simp] theorem phaseStep_duty (time : Byte) (s : State) : (phaseStep time s).duty = s.duty := by
  unfold phaseStep; repeat' split
  all_goals rfl
@[simp] theorem phaseStep_pwmIndex (time : Byte) (s : State) : (phaseStep time s).pwmIndex = s.pwmIndex := by
  unfold phaseStep; repeat' split
  all_goals rfl
@[simp] theorem phaseStep_portData (time : Byte) (s : State) : (phaseStep time s).portData = s.portData := by
  unfold phaseStep; repeat' split
  all_goals rfl
@[simp] theorem phaseStep_rsState (time : Byte) (s : State) : (phaseStep time s).rsState = s.rsState := by
  unfold phaseStep; repeat' split
  all_goals rfl
@[simp] theorem phaseStep_rstOe (time : Byte) (s : State) : (phaseStep time s).rstOe = s.rstOe := by
  unfold phaseStep; repeat' split
  all_goals rfl
@[simp] theorem phaseStep_wdtArmed (time : Byte) (s : State) : (phaseStep time s).wdtArmed = s.wdtArmed := by
  unfold phaseStep; repeat' split
  all_goals rfl
@[simp] theorem phaseStep_events (time : Byte) (s : State) : (phaseStep time s).events = s.events := by
  unfold phaseStep; repeat' split
  all_goals rfl
@[simp] theorem phaseStep_out (time : Byte) (s : State) : (phaseStep time s).out = s.out := by
  unfold phaseStep; repeat' split
  all_goals rfl

/-! ### animTick -/

@[simp] theorem animTick_dbState (s : State) : (animTick s).dbState = s.dbState := by
  simp [animTick]
@[simp] theorem animTick_dbCt0 (s : State) : (animTick s).dbCt0 = s.dbCt0 := by
  simp [animTick]
@[simp] theorem animTick_dbCt1 (s : State) : (animTick s).dbCt1 = s.dbCt1 := by
  simp [animTick]
@[simp] theorem animTick_pressEdge (s : State) : (animTick s).pressEdge = s.pressEdge := by
  simp [animTick]
@[simp] theorem animTick_tickCnt (s : State) : (animTick s).tickCnt = s.tickCnt := by
  simp [animTick]
@[simp] theorem animTick_rxRem (s : State) : (animTick s).rxRem = s.rxRem := by
  simp [animTick]
@[simp] theorem animTick_rxIdx (s : State) : (animTick s).rxIdx = s.rxIdx := by
  simp [animTick]
@[simp] theorem animTick_txData (s : State) : (animTick s).txData = s.txData := by
  simp [animTick]
@[simp] theorem animTick_pwmIndex (s : State) : (animTick s).pwmIndex = s.pwmIndex := by
  simp [animTick]
@[simp] theorem animTick_portData (s : State) : (animTick s).portData = s.portData := by
  simp [animTick]
@[simp] theorem animTick_rsState (s : State) : (animTick s).rsState = s.rsState := by
  simp [animTick]
@[simp] theorem animTick_rstOe (s : State) : (animTick s).rstOe = s.rstOe := by
  simp [animTick]
@[simp] theorem animTick_wdtArmed (s : State) : (animTick s).wdtArmed = s.wdtArmed := by
  simp [animTick]
@[simp] theorem animTick_events (s : State) : (animTick s).events = s.events := by
  simp [animTick]
@[simp] theorem animTick_out (s : State) : (animTick s).out = s.out := by
  simp [animTick]

/-! ### resetCheck -/

@[simp] theorem resetCheck_dbState (s : State) : (resetCheck s).dbState = s.dbState := by
  unfold resetCheck; split <;> simp
@[simp] theorem resetCheck_dbCt0 (s : State) : (resetCheck s).dbCt0 = s.dbCt0 := by
  unfold resetCheck; split <;> simp
@[simp] theorem resetCheck_dbCt1 (s : State) : (resetCheck s).dbCt1 = s.dbCt1 := by
  unfold resetCheck; split <;> simp
@[simp] theorem resetCheck_pressEdge (s : State) : (resetCheck s).pressEdge = s.pressEdge := by
  unfold resetCheck; split <;> simp
@[simp] theorem resetCheck_tickCnt (s : State) : (resetCheck s).tickCnt = s.tickCnt := by
  unfold resetCheck; split <;> simp
@[simp] theorem resetCheck_rxRem (s : State) : (resetCheck s).rxRem = s.rxRem := by
  unfold resetCheck; split <;> simp
@[simp] theorem resetCheck_rxIdx (s : State) : (resetCheck s).rxIdx = s.rxIdx := by
  unfold resetCheck; split <;> simp
@[simp] theorem resetCheck_txData (s : State) : (resetCheck s).txData = s.txData := by
  unfold resetCheck; split <;> simp
@[simp] theorem resetCheck_act (s : State) : (resetCheck s).act = s.act := by
  unfold resetCheck; split <;> simp
@[simp] theorem resetCheck_phase (s : State) : (resetCheck s).phase = s.phase := by
  unfold resetCheck; split <;> simp
@[simp] theorem resetCheck_pt (s : State) : (resetCheck s).pt = s.pt := by
  unfold resetCheck; split <;> simp
@[simp] theorem resetCheck_cur (s : State) : (resetCheck s).cur = s.cur := by
  unfold resetCheck; split <;> simp
@[simp] theorem resetCheck_duty (s : State) : (resetCheck s).duty = s.duty := by
  unfold resetCheck; split <;> simp
@[simp] theorem resetCheck_pwmIndex (s : State) : (resetCheck s).pwmIndex = s.pwmIndex := by
  unfold resetCheck; split <;> simp
@[simp] theorem resetCheck_portData (s : State) : (resetCheck s).portData = s.portData := by
  unfold resetCheck; split <;> simp
@[simp] theorem resetCheck_events (s : State) : (resetCheck s).events = s.events := by
  unfold resetCheck; split <;> simp
@[simp] theorem resetCheck_out (s : State) : (resetCheck s).out = s.out := by
  unfold resetCheck; split <;> simp
@[simp] theorem resetCheck_freeCount (s : State) : (resetCheck s).freeCount = s.freeCount := by
  unfold resetCheck; split <;> simp

/-! ### tickDivide -/

@[simp] theorem tickDivide_dbState (s : State) : (tickDivide s).dbState = s.dbState := by
  unfold tickDivide; split <;> simp
@[simp] theorem tickDivide_dbCt0 (s : State) : (tickDivide s).dbCt0 = s.dbCt0 := by
  unfold tickDivide; split <;> simp
@[simp] theorem tickDivide_dbCt1 (s : State) : (tickDivide s).dbCt1 = s.dbCt1 := by
  unfold tickDivide; split <;> simp
@[simp] theorem tickDivide_pressEdge (s : State) : (tickDivide s).pressEdge = s.pressEdge := by
  unfold tickDivide; split <;> simp
@[simp] theorem tickDivide_rxRem (s : State) : (tickDivide s).rxRem = s.rxRem := by
  unfold tickDivide; split <;> simp
@[simp] theorem tickDivide_rxIdx (s : State) : (tickDivide s).rxIdx = s.rxIdx := by
  unfold tickDivide; split <;> simp
@[simp] theorem tickDivide_txData (s : State) : (tickDivide s).txData = s.txData := by
  unfold tickDivide; split <;> simp
@[simp] theorem tickDivide_pwmIndex (s : State) : (tickDivide s).pwmIndex = s.pwmIndex := by
  unfold tickDivide; split <;> simp
@[simp] theorem tickDivide_portData (s : State) : (tickDivide s).portData = s.portData := by
  unfold tickDivide; split <;> simp
@[simp] theorem tickDivide_rsState (s : State) : (tickDivide s).rsState = s.rsState := by
  unfold tickDivide; split <;> simp
@[simp] theorem tickDivide_rstOe (s : State) : (tickDivide s).rstOe = s.rstOe := by
  unfold tickDivide; split <;> simp
@[simp] theorem tickDivide_wdtArmed (s : State) : (tickDivide s).wdtArmed = s.wdtArmed := by
  unfold tickDivide; split <;> simp
@[simp] theorem tickDivide_events (s : State) : (tickDivide s).events = s.events := by
  unfold tickDivide; split <;> simp
@[simp] theorem tickDivide_out (s : State) : (tickDivide s).out = s.out := by
  unfold tickDivide; split <;> simp

/-! ### storePayload -/

@[simp] theorem storePayload_dbState (b : Byte) (s : State) : (storePayload b s).dbState = s.dbState := by
  unfold storePayload; split <;> simp
@[simp] theorem storePayload_dbCt0 (b : Byte) (s : State) : (storePayload b s).dbCt0 = s.dbCt0 := by
  unfold storePayload; split <;> simp
@[simp] theorem storePayload_dbCt1 (b : Byte) (s : State) : (storePayload b s).dbCt1 = s.dbCt1 := by
  unfold storePayload; split <;> simp
@[simp] theorem storePayload_pressEdge (b : Byte) (s : State) : (storePayload b s).pressEdge = s.pressEdge := by
  unfold storePayload; split <;> simp
@[simp] theorem storePayload_tickCnt (b : Byte) (s : State) : (storePayload b s).tickCnt = s.tickCnt := by
  unfold storePayload; split <;> simp
@[simp] theorem storePayload_rxRem (b : Byte) (s : State) : (storePayload b s).rxRem = s.rxRem := by
  unfold storePayload; split <;> simp
@[simp] theorem storePayload_rxIdx (b : Byte) (s : State) : (storePayload b s).rxIdx = s.rxIdx := by
  unfold storePayload; split <;> simp
@[simp] theorem storePayload_cmdReady (b : Byte) (s : State) : (storePayload b s).cmdReady = s.cmdReady := by
  unfold storePayload; split <;> simp
@[simp] theorem storePayload_txData (b : Byte) (s : State) : (storePayload b s).txData = s.txData := by
  unfold storePayload; split <;> simp
@[simp] theorem storePayload_act (b : Byte) (s : State) : (storePayload b s).act = s.act := by
  unfold storePayload; split <;> simp
@[simp] theorem storePayload_phase (b : Byte) (s : State) : (storePayload b s).phase = s.phase := by
  unfold storePayload; split <;> simp
@[simp] theorem storePayload_pt (b : Byte) (s : State) : (storePayload b s).pt = s.pt := by
  unfold storePayload; split <;> simp
@[simp] theorem storePayload_cur (b : Byte) (s : State) : (storePayload b s).cur = s.cur := by
  unfold storePayload; split <;> simp
@[simp] theorem storePayload_duty (b : Byte) (s : State) : (storePayload b s).duty = s.duty := by
  unfold storePayload; split <;> simp
@[simp] theorem storePayload_pwmIndex (b : Byte) (s : State) : (storePayload b s).pwmIndex = s.pwmIndex := by
  unfold storePayload; split <;> simp
@[simp] theorem storePayload_portData (b : Byte) (s : State) : (storePayload b s).portData = s.portData := by
  unfold storePayload; split <;> simp
@[simp] theorem storePayload_rsState (b : Byte) (s : State) : (storePayload b s).rsState = s.rsState := by
  unfold storePayload; split <;> simp
@[simp] theorem storePayload_rstOe (b : Byte) (s : State) : (storePayload b s).rstOe = s.rstOe := by
  unfold storePayload; split <;> simp
@[simp] theorem storePayload_wdtArmed (b : Byte) (s : State) : (storePayload b s).wdtArmed = s.wdtArmed := by
  unfold storePayload; split <;> simp
@[simp] theorem storePayload_events (b : Byte) (s : State) : (storePayload b s).events = s.events := by
  unfold storePayload; split <;> simp
@[simp] theorem storePayload_out (b : Byte) (s : State) : (storePayload b s).out = s.out := by
  unfold storePayload; split <;> simp
@[simp] theorem storePayload_freeCount (b : Byte) (s : State) : (storePayload b s).freeCount = s.freeCount := by
  unfold storePayload; split <;> simp

/-! ### advanceIndex -/

@[simp] theorem advanceIndex_dbState (s : State) : (advanceIndex s).dbState = s.dbState := by
  unfold advanceIndex; split <;> rfl
@[simp] theorem advanceIndex_dbCt0 (s : State) : (advanceIndex s).dbCt0 = s.dbCt0 := by
  unfold advanceIndex; split <;> rfl
@[simp] theorem advanceIndex_dbCt1 (s : State) : (advanceIndex s).dbCt1 = s.dbCt1 := by
  unfold advanceIndex; split <;> rfl
@[simp] theorem advanceIndex_pressEdge (s : State) : (advanceIndex s).pressEdge = s.pressEdge := by
  unfold advanceIndex; split <;> rfl
@[simp] theorem advanceIndex_tickCnt (s : State) : (advanceIndex s).tickCnt = s.tickCnt := by
  unfold advanceIndex; split <;> rfl
@[simp] theorem advanceIndex_rxRem (s : State) : (advanceIndex s).rxRem = s.rxRem := by
  unfold advanceIndex; split <;> rfl
@[simp] theorem advanceIndex_cmdReady (s : State) : (advanceIndex s).cmdReady = s.cmdReady := by
  unfold advanceIndex; split <;> rfl
@[simp] theorem advanceIndex_txData (s : State) : (advanceIndex s).txData = s.txData := by
  unfold advanceIndex; split <;> rfl
@[simp] theorem advanceIndex_buf (s : State) : (advanceIndex s).buf = s.buf := by
  unfold advanceIndex; split <;> rfl
@[simp] theorem advanceIndex_act (s : State) : (advanceIndex s).act = s.act := by
  unfold advanceIndex; split <;> rfl
@[simp] theorem advanceIndex_phase (s : State) : (advanceIndex s).phase = s.phase := by
  unfold advanceIndex; split <;> rfl
@[simp] theorem advanceIndex_pt (s : State) : (advanceIndex s).pt = s.pt := by
  unfold advanceIndex; split <;> rfl
@[simp] theorem advanceIndex_cur (s : State) : (advanceIndex s).cur = s.cur := by
  unfold advanceIndex; split <;> rfl
@[simp] theorem advanceIndex_duty (s : State) : (advanceIndex s).duty = s.duty := by
  unfold advanceIndex; split <;> rfl
@[simp] theorem advanceIndex_pwmIndex (s : State) : (advanceIndex s).pwmIndex = s.pwmIndex := by
  unfold advanceIndex; split <;> rfl
@[simp] theorem advanceIndex_portData (s : State) : (advanceIndex s).portData = s.portData := by
  unfold advanceIndex; split <;> rfl
@[simp] theorem advanceIndex_rsState (s : State) : (advanceIndex s).rsState = s.rsState := by
  unfold advanceIndex; split <;> rfl
@[simp] theorem advanceIndex_rstOe (s : State) : (advanceIndex s).rstOe = s.rstOe := by
  unfold advanceIndex; split <;> rfl
@[simp] theorem advanceIndex_wdtArmed (s : State) : (advanceIndex s).wdtArmed = s.wdtArmed := by
  unfold advanceIndex; split <;> rfl
@[simp] theorem advanceIndex_events (s : State) : (advanceIndex s).events = s.events := by
  unfold advanceIndex; split <;> rfl
@[simp] theorem advanceIndex_out (s : State) : (advanceIndex s).out = s.out := by
  unfold advanceIndex; split <;> rfl

/-! ### receivePayload -/

@[simp] theorem receivePayload_dbState (b : Byte) (s : State) : (receivePayload b s).dbState = s.dbState := by
  unfold receivePayload; dsimp only; split <;> simp
@[simp] theorem receivePayload_dbCt0 (b : Byte) (s : State) : (receivePayload b s).dbCt0 = s.dbCt0 := by
  unfold receivePayload; dsimp only; split <;> simp
@[simp] theorem receivePayload_dbCt1 (b : Byte) (s : State) : (receivePayload b s).dbCt1 = s.dbCt1 := by
  unfold receivePayload; dsimp only; split <;> simp
@[simp] theorem receivePayload_pressEdge (b : Byte) (s : State) : (receivePayload b s).pressEdge = s.pressEdge := by
  unfold receivePayload; dsimp only; split <;> simp
@[simp] theorem receivePayload_tickCnt (b : Byte) (s : State) : (receivePayload b s).tickCnt = s.tickCnt := by
  unfold receivePayload; dsimp only; split <;> simp
@[simp] theorem receivePayload_txData (b : Byte) (s : State) : (receivePayload b s).txData = s.txData := by
  unfold receivePayload; dsimp only; split <;> simp
@[simp] theorem receivePayload_act (b : Byte) (s : State) : (receivePayload b s).act = s.act := by
  unfold receivePayload; dsimp only; split <;> simp
@[simp] theorem receivePayload_phase (b : Byte) (s : State) : (receivePayload b s).phase = s.phase := by
  unfold receivePayload; dsimp only; split <;> simp
@[simp] theorem receivePayload_pt (b : Byte) (s : State) : (receivePayload b s).pt = s.pt := by
  unfold receivePayload; dsimp only; split <;> simp
@[simp] theorem receivePayload_cur (b : Byte) (s : State) : (receivePayload b s).cur = s.cur := by
  unfold receivePayload; dsimp only; split <;> simp
@[simp] theorem receivePayload_duty (b : Byte) (s : State) : (receivePayload b s).duty = s.duty := by
  unfold receivePayload; dsimp only; split <;> simp
@[simp] theorem receivePayload_pwmIndex (b : Byte) (s : State) : (receivePayload b s).pwmIndex = s.pwmIndex := by
  unfold receivePayload; dsimp only; split <;> simp
@[simp] theorem receivePayload_portData (b : Byte) (s : State) : (receivePayload b s).portData = s.portData := by
  unfold receivePayload; dsimp only; split <;> simp
@[simp] theorem receivePayload_rsState (b : Byte) (s : State) : (receivePayload b s).rsState = s.rsState := by
  unfold receivePayload; dsimp only; split <;> simp
@[simp] theorem receivePayload_rstOe (b : Byte) (s : State) : (receivePayload b s).rstOe = s.rstOe := by
  unfold receivePayload; dsimp only; split <;> simp
@[simp] theorem receivePayload_wdtArmed (b : Byte) (s : State) : (receivePayload b s).wdtArmed = s.wdtArmed := by
  unfold receivePayload; dsimp only; split <;> simp
@[simp] theorem receivePayload_events (b : Byte) (s : State) : (receivePayload b s).events = s.events := by
  unfold receivePayload; dsimp only; split <;> simp
@[simp] theorem receivePayload_out (b : Byte) (s : State) : (receivePayload b s).out = s.out := by
  unfold receivePayload; dsimp only; split <;> simp

/-! ### receiveHeader -/

@[simp] theorem receiveHeader_dbState (b : Byte) (s : State) : (receiveHeader b s).dbState = s.dbState := by
  unfold receiveHeader; repeat' split
  all_goals simp
@[simp] theorem receiveHeader_dbCt0 (b : Byte) (s : State) : (receiveHeader b s).dbCt0 = s.dbCt0 := by
  unfold receiveHeader; repeat' split
  all_goals simp
@[simp] theorem receiveHeader_dbCt1 (b : Byte) (s : State) : (receiveHeader b s).dbCt1 = s.dbCt1 := by
  unfold receiveHeader; repeat' split
  all_goals simp
@[simp] theorem receiveHeader_pressEdge (b : Byte) (s : State) : (receiveHeader b s).pressEdge = s.pressEdge := by
  unfold receiveHeader; repeat' split
  all_goals simp
@[simp] theorem receiveHeader_tickCnt (b : Byte) (s : State) : (receiveHeader b s).tickCnt = s.tickCnt := by
  unfold receiveHeader; repeat' split
  all_goals simp
@[simp] theorem receiveHeader_cmdReady (b : Byte) (s : State) : (receiveHeader b s).cmdReady = s.cmdReady := by
  unfold receiveHeader; repeat' split
  all_goals simp
@[simp] theorem receiveHeader_txData (b : Byte) (s : State) : (receiveHeader b s).txData = s.txData := by
  unfold receiveHeader; repeat' split
  all_goals simp
@[simp] theorem receiveHeader_buf (b : Byte) (s : State) : (receiveHeader b s).buf = s.buf := by
  unfold receiveHeader; repeat' split
  all_goals simp
@[simp] theorem receiveHeader_act (b : Byte) (s : State) : (receiveHeader b s).act = s.act := by
  unfold receiveHeader; repeat' split
  all_goals simp
@[simp] theorem receiveHeader_phase (b : Byte) (s : State) : (receiveHeader b s).phase = s.phase := by
  unfold receiveHeader; repeat' split
  all_goals simp
@[simp] theorem receiveHeader_pt (b : Byte) (s : State) : (receiveHeader b s).pt = s.pt := by
  unfold receiveHeader; repeat' split
  all_goals simp
@[simp] theorem receiveHeader_cur (b : Byte) (s : State) : (receiveHeader b s).cur = s.cur := by
  unfold receiveHeader; repeat' split
  all_goals simp
@[simp] theorem receiveHeader_duty (b : Byte) (s : State) : (receiveHeader b s).duty = s.duty := by
  unfold receiveHeader; repeat' split
  all_goals simp
@[simp] theorem receiveHeader_pwmIndex (b : Byte) (s : State) : (receiveHeader b s).pwmIndex = s.pwmIndex := by
  unfold receiveHeader; repeat' split
  all_goals simp
@[simp] theorem receiveHeader_portData (b : Byte) (s : State) : (receiveHeader b s).portData = s.portData := by
  unfold receiveHeader; repeat' split
  all_goals simp
@[simp] theorem receiveHeader_rsState (b : Byte) (s : State) : (receiveHeader b s).rsState = s.rsState := by
  unfold receiveHeader; repeat' split
  all_goals simp
@[simp] theorem receiveHeader_rstOe (b : Byte) (s : State) : (receiveHeader b s).rstOe = s.rstOe := by
  unfold receiveHeader; repeat' split
  all_goals simp
@[simp] theorem receiveHeader_wdtArmed (b : Byte) (s : State) : (receiveHeader b s).wdtArmed = s.wdtArmed := by
  unfold receiveHeader; repeat' split
  all_goals simp
@[simp] theorem receiveHeader_events (b : Byte) (s : State) : (receiveHeader b s).events = s.events := by
  unfold receiveHeader; repeat' split
  all_goals simp
@[simp] theorem receiveHeader_out (b : Byte) (s : State) : (receiveHeader b s).out = s.out := by
  unfold receiveHeader; repeat' split
  all_goals simp
@[simp] theorem receiveHeader_freeCount (b : Byte) (s : State) : (receiveHeader b s).freeCount = s.freeCount := by
  unfold receiveHeader; repeat' split
  all_goals simp

/-! ### receive, with the header effect of its byte -/

@[simp] theorem receive_dbState (b : Byte) (s : State) :
    (receive b (receiveHeader b) s).dbState = s.dbState := by
  unfold receive; split <;> simp
@[simp] theorem receive_dbCt0 (b : Byte) (s : State) :
    (receive b (receiveHeader b) s).dbCt0 = s.dbCt0 := by
  unfold receive; split <;> simp
@[simp] theorem receive_dbCt1 (b : Byte) (s : State) :
    (receive b (receiveHeader b) s).dbCt1 = s.dbCt1 := by
  unfold receive; split <;> simp
@[simp] theorem receive_pressEdge (b : Byte) (s : State) :
    (receive b (receiveHeader b) s).pressEdge = s.pressEdge := by
  unfold receive; split <;> simp
@[simp] theorem receive_tickCnt (b : Byte) (s : State) :
    (receive b (receiveHeader b) s).tickCnt = s.tickCnt := by
  unfold receive; split <;> simp
@[simp] theorem receive_act (b : Byte) (s : State) :
    (receive b (receiveHeader b) s).act = s.act := by
  unfold receive; split <;> simp
@[simp] theorem receive_phase (b : Byte) (s : State) :
    (receive b (receiveHeader b) s).phase = s.phase := by
  unfold receive; split <;> simp
@[simp] theorem receive_pt (b : Byte) (s : State) :
    (receive b (receiveHeader b) s).pt = s.pt := by
  unfold receive; split <;> simp
@[simp] theorem receive_cur (b : Byte) (s : State) :
    (receive b (receiveHeader b) s).cur = s.cur := by
  unfold receive; split <;> simp
@[simp] theorem receive_duty (b : Byte) (s : State) :
    (receive b (receiveHeader b) s).duty = s.duty := by
  unfold receive; split <;> simp
@[simp] theorem receive_pwmIndex (b : Byte) (s : State) :
    (receive b (receiveHeader b) s).pwmIndex = s.pwmIndex := by
  unfold receive; split <;> simp
@[simp] theorem receive_portData (b : Byte) (s : State) :
    (receive b (receiveHeader b) s).portData = s.portData := by
  unfold receive; split <;> simp
@[simp] theorem receive_rsState (b : Byte) (s : State) :
    (receive b (receiveHeader b) s).rsState = s.rsState := by
  unfold receive; split <;> simp
@[simp] theorem receive_rstOe (b : Byte) (s : State) :
    (receive b (receiveHeader b) s).rstOe = s.rstOe := by
  unfold receive; split <;> simp
@[simp] theorem receive_wdtArmed (b : Byte) (s : State) :
    (receive b (receiveHeader b) s).wdtArmed = s.wdtArmed := by
  unfold receive; split <;> simp
@[simp] theorem receive_events (b : Byte) (s : State) :
    (receive b (receiveHeader b) s).events = s.events := by
  unfold receive; split <;> simp

end Sys2Proof.Machine
end

