-- ==== Sys2Proof/Laws/Animation.lean ====
section
/-! SUPPORT. The animation datapath: the ramp, the curve, and what one animation tick does. -/

namespace Sys2Proof.Machine

@[simp] theorem Rgb.get_of (f : Channel → Byte) (c : Channel) : (Rgb.of f).get c = f c := by cases c <;> rfl

theorem Rgb.ext_get {a b : Rgb} (h : ∀ c, a.get c = b.get c) : a = b := by
  have hr := h .red
  have hg := h .green
  have hb := h .blue
  cases a; cases b
  simp_all [Rgb.get]

/-! ### Integer forms: no result leaves its register (42_animation.md R118) -/

theorem ramp_toNat (cur tgt es : Byte) :
    (ramp cur tgt es).toNat =
      if cur.toNat < tgt.toNat then cur.toNat + min es.toNat (tgt.toNat - cur.toNat)
      else cur.toNat - min es.toNat (cur.toNat - tgt.toNat) := by
  have hc := cur.isLt
  have ht := tgt.isLt
  unfold ramp
  split
  · rw [BitVec.toNat_ofNat, Nat.mod_eq_of_lt (by omega)]
  · split
    · rw [BitVec.toNat_ofNat, Nat.mod_eq_of_lt (by omega)]
    · omega

theorem lin_toNat (v : Byte) :
    (lin v).toNat =
      if v.toNat < 128 then v.toNat / 2
      else if v.toNat < 192 then 64 + (v.toNat - 128) else 128 + (v.toNat - 192) * 2 := by
  have hv := v.isLt
  unfold lin Config.lutBp1 Config.lutBp2
  split
  · rw [BitVec.toNat_ofNat, Nat.mod_eq_of_lt (by omega)]
  · split
    · rw [BitVec.toNat_ofNat, Nat.mod_eq_of_lt (by omega)]
    · rw [BitVec.toNat_ofNat, Nat.mod_eq_of_lt (by omega)]

theorem effectiveSlew_pos (slew : Byte) : 1 ≤ (effectiveSlew slew).toNat := by
  unfold effectiveSlew
  split
  · decide
  · next h =>
    have : slew.toNat ≠ 0 := fun e => h (BitVec.eq_of_toNat_eq (by simpa using e))
    omega

/-! ### Reading the active phase -/

/-- The field read depends on the buffer, `act` and `phase` only. -/
theorem phaseField_congr {s t : State} (hb : ∀ k : Fin 10, t.readBuf ⟨t.act, k⟩ = s.readBuf ⟨s.act, k⟩)
    (hp : t.phase = s.phase) (f : Field) : t.phaseField f = s.phaseField f := by
  simp only [State.phaseField, State.phaseAddr, hp, hb]

/-- What a phase step does: nothing with `time = 0`, a flip when the phase is over, else one more tick; with `pt < time` no
free value is drawn. -/
theorem phaseStep_cases (time : Byte) (s : State) (h : time ≠ 0#8 → s.pt.toNat < time.toNat) :
    (time = 0#8 ∧ phaseStep time s = s) ∨
    (time ≠ 0#8 ∧ s.pt.toNat + 1 = time.toNat ∧ phaseStep time s = { s with pt := 0#8, phase := s.phase.other }) ∨
    (time ≠ 0#8 ∧ s.pt.toNat + 1 < time.toNat ∧ phaseStep time s = { s with pt := s.pt + 1#8 }) := by
  have ht := time.isLt
  unfold phaseStep
  by_cases h0 : time = 0#8
  · exact .inl ⟨h0, if_pos h0⟩
  · have h := h h0
    rw [if_neg h0]
    by_cases h1 : s.pt.toNat + 1 = time.toNat
    · exact .inr (.inl ⟨h0, h1, if_pos h1⟩)
    · exact .inr (.inr ⟨h0, by omega, by rw [if_neg h1, if_pos (by omega)]⟩)

/-- One animation tick without a swap, as one record update. -/
theorem animTick_of_not_ready {s : State} (h : s.cmdReady = false) :
    animTick s = phaseStep (s.phaseField .time) (publishDuty (rampChannels s)) := by
  simp [animTick, swapIfReady, h]

/-- One animation tick with a command ready is the tick of the swapped state. -/
theorem animTick_of_ready {s : State} (h : s.cmdReady = true) : animTick s = animTick (swap s) := by
  have : (swap s).cmdReady = false := rfl
  rw [animTick_of_not_ready this]
  simp [animTick, swapIfReady, h]

/-- After every animation tick the duty is the curve's value of the channel. -/
theorem animTick_duty (s : State) (c : Channel) : (animTick s).duty.get c = lin ((animTick s).cur.get c) := by
  simp [animTick]

theorem swapIfReady_buf_of_not_ready {s : State} (h : s.cmdReady = false) : swapIfReady s = s := by
  simp [swapIfReady, h]

/-- The buffer after a tick is the buffer after its swap step. -/
theorem animTick_buf (s : State) : (animTick s).buf = (swapIfReady s).buf := by simp [animTick]

theorem animTick_act (s : State) : (animTick s).act = (swapIfReady s).act := by simp [animTick]

theorem animTick_cmdReady (s : State) : (animTick s).cmdReady = false := by
  simp only [animTick, phaseStep_cmdReady, publishDuty_cmdReady, rampChannels_cmdReady, swapIfReady]
  split
  · rfl
  · next h => simpa using h

/-- The bytes after a swap: the slot taken out of use is zero, the other as it was. -/
theorem readBuf_swap (s : State) (a : BufAddr) :
    (swap s).readBuf a = if a.slot = s.act then 0x00#8 else s.readBuf a := by
  show (s.fillSlot s.act (List.replicate Config.bufLen 0x00#8)).readBuf a = _
  rw [State.readBuf_fillSlot _ _ _ (by rfl)]
  split
  · rw [List.getD_replicate]
    exact a.index.isLt
  · rfl

theorem wf_swap {s : State} (h : Memory.wf s.buf) : Memory.wf (swap s).buf :=
  State.wf_fillSlot h s.act _ (by rfl)

theorem wf_animTick {s : State} (h : Memory.wf s.buf) : Memory.wf (animTick s).buf := by
  rw [animTick_buf]
  unfold swapIfReady
  split
  · exact wf_swap h
  · exact h

end Sys2Proof.Machine
end

