-- ==== Sys2Proof/Laws/Debounce.lean ====
section
/-! SUPPORT. Button vectors bit by bit, and the debounce update lane by lane. -/

namespace Sys2Proof.Machine

@[simp] theorem getLsbD_btnOf (f : Fin 4 → Bool) (i : Fin 4) : (btnOf f).getLsbD i.val = f i := by
  obtain ⟨i, hi⟩ := i
  interval_cases i <;> cases h0 : f 0 <;> cases h1 : f 1 <;> cases h2 : f 2 <;> cases h3 : f 3 <;>
    simp_all [btnOf]

/-- Two button vectors with the same bits are the same. -/
theorem btn_ext {a b : Btn} (h : ∀ i : Fin 4, a.getLsbD i.val = b.getLsbD i.val) : a = b :=
  BitVec.eq_of_getLsbD_eq fun i hi => h ⟨i, hi⟩

/-- `DB_UPDATE` acts on each lane by itself. -/
@[simp] theorem lane_dbUpdate (v : Btn) (s : State) (i : Fin 4) :
    (dbUpdate v s).lane i = (s.lane i).update (v.getLsbD i.val) := by
  show Lane.mk _ _ _ _ = _
  simp only [dbUpdate_dbState, dbUpdate_dbCt0, dbUpdate_dbCt1, dbUpdate_pressEdge, getLsbD_btnOf]

/-- A lane is read from the four debounce registers only. -/
theorem lane_congr {s t : State} (h0 : t.dbState = s.dbState) (h1 : t.dbCt0 = s.dbCt0) (h2 : t.dbCt1 = s.dbCt1)
    (h3 : t.pressEdge = s.pressEdge) (i : Fin 4) : t.lane i = s.lane i := by
  simp [State.lane, h0, h1, h2, h3]

/-- The whole of a debounce tick, lane by lane: its other parts touch no debounce register. -/
@[simp] theorem lane_dbTick (v : Btn) (s : State) (i : Fin 4) :
    (tickDivide (resetCheck (dbUpdate v s))).lane i = (s.lane i).update (v.getLsbD i.val) := by
  rw [← lane_dbUpdate]
  exact lane_congr (by simp only [tickDivide_dbState, resetCheck_dbState])
    (by simp only [tickDivide_dbCt0, resetCheck_dbCt0]) (by simp only [tickDivide_dbCt1, resetCheck_dbCt1])
    (by simp only [tickDivide_pressEdge, resetCheck_pressEdge]) i

/-! ### One lane -/

theorem Lane.update_agree (l : Lane) : l.update l.state = { l with ct0 := false, ct1 := false } := by
  simp [Lane.update, Lane.withCount]

theorem Lane.update_count_lt (b : Bool) (l : Lane) : (l.update b).count < Config.debounceN := by
  rcases l with ⟨_ | _, _ | _, _ | _, _ | _⟩ <;> cases b <;> decide

/-- The edge after an update: set by a press, never cleared. -/
theorem Lane.update_edge (b : Bool) (l : Lane) :
    (l.update b).edge = (l.edge || (!l.state && (l.update b).state)) := by
  rcases l with ⟨_ | _, _ | _, _ | _, _ | _⟩ <;> cases b <;> decide

/-- The update in closed form where the second plane is 0, as in every reachable state. -/
theorem Lane.update_of_ct1 (b : Bool) (l : Lane) (h : l.ct1 = false) :
    l.update b =
      { state := l.state ^^ ((b ^^ l.state) && l.ct0), ct0 := (b ^^ l.state) && !l.ct0, ct1 := false,
        edge := l.edge || (((b ^^ l.state) && l.ct0) && b) } := by
  rcases l with ⟨_ | _, _ | _, _ | _, _ | _⟩ <;> cases b <;> simp_all <;> decide

end Sys2Proof.Machine
end

