-- ==== Sys2Proof/Laws/Pwm.lean ====
section
/-! SUPPORT. The port value of a PWM tick: its colour bits and its reset-line bits. -/

namespace Sys2Proof.Machine

theorem getLsbD_portValue (s : State) (c : Channel) : s.portValue.getLsbD c.field.offset = s.colourBit c := by
  unfold State.portValue
  generalize s.colourBit = f
  cases c <;> cases h0 : f .red <;> cases h1 : f .green <;> cases h2 : f .blue <;>
    simp_all [Channel.field, Field.offset]

theorem portValue_lines (s : State) : s.portValue.extractLsb' 3 2 = 0b00#2 := by
  unfold State.portValue
  generalize s.colourBit = f
  cases h0 : f .red <;> cases h1 : f .green <;> cases h2 : f .blue <;> decide

end Sys2Proof.Machine
end

