-- ==== Sys2Proof/Laws/System.lean ====
section
/-! SUPPORT. The reset sequence: what `RESET_ENTER` writes and when the reset check performs it. -/

namespace Sys2Proof.Machine

/-- The bytes after `RESET_ENTER`: the pattern in the inactive slot, the active slot as it was. -/
theorem readBuf_resetEnter (s : State) (a : BufAddr) :
    (resetEnter s).readBuf a =
      if a.slot = s.act.other then flashPattern.getD a.index.val Memory.unlisted else s.readBuf a := by
  show ({ s with rsState := .resetting }.fillSlot s.inactive flashPattern).readBuf a = _
  rw [State.readBuf_fillSlot _ _ _ flashPattern_length]
  rfl

theorem wf_resetEnter {s : State} (h : Memory.wf s.buf) : Memory.wf (resetEnter s).buf :=
  State.wf_fillSlot (s := { s with rsState := .resetting }) h s.inactive _ flashPattern_length

/-- The reset check: either it performs `RESET_ENTER` on the combination in NORMAL, or nothing. -/
theorem resetCheck_cases (s : State) :
    (s.rsState = .normal ∧ s.dbState = 0b1100#4 ∧ resetCheck s = resetEnter s) ∨
    (¬(s.rsState = .normal ∧ s.dbState = 0b1100#4) ∧ resetCheck s = s) := by
  unfold resetCheck Config.resetCombo
  split
  · next h => exact .inl ⟨h.1, h.2, rfl⟩
  · next h => exact .inr ⟨h, rfl⟩

/-- The tick divider: either it counts, or it clears the count and performs `ANIM_TICK`. -/
theorem tickDivide_cases (s : State) :
    (s.tickCnt.toNat + 1 < 3 ∧ tickDivide s = { s with tickCnt := s.tickCnt + 1#2 }) ∨
    (3 ≤ s.tickCnt.toNat + 1 ∧ tickDivide s = animTick { s with tickCnt := 0#2 }) := by
  unfold tickDivide Config.animDiv
  split
  · next h => exact .inl ⟨h, rfl⟩
  · next h => exact .inr ⟨by omega, rfl⟩

/-- The mode after a debounce tick is RESETTING exactly when it was, or when the reset check performed `RESET_ENTER`. -/
theorem rsState_resetCheck (s : State) :
    (resetCheck s).rsState = .resetting ↔ s.rsState = .resetting ∨ s.dbState = 0b1100#4 := by
  rcases resetCheck_cases s with ⟨hn, hd, e⟩ | ⟨h, e⟩
  · rw [e]; simp [hd]
  · rw [e]
    cases hs : s.rsState <;> simp_all

end Sys2Proof.Machine
end

