-- ==== Sys2Proof/Laws/Receiver.lean ====
section
/-! SUPPORT. The command byte assembler: what one received byte can do. -/

namespace Sys2Proof.Machine

theorem parserState_eq_awaiting {s : State} : s.parserState = .awaitingHeader ↔ s.rxRem = 0#4 := by
  unfold State.parserState; split <;> simp_all

theorem parserState_eq_payload {s : State} : s.parserState = .inPayload ↔ s.rxRem ≠ 0#4 := by
  unfold State.parserState; split <;> simp_all

theorem receive_of_awaiting {s : State} (h : s.rxRem = 0#4) (b : Byte) (hdr : State → State) :
    receive b hdr s = hdr (loadStatus s) := by simp [receive, parserState_eq_awaiting.2 h]

theorem receive_of_payload {s : State} (h : s.rxRem ≠ 0#4) (b : Byte) (hdr : State → State) :
    receive b hdr s = receivePayload b (loadStatus s) := by simp [receive, parserState_eq_payload.2 h]

/-- The address of a payload byte, when there is one. -/
theorem payloadAddr_eq_some {s : State} {a : BufAddr} :
    s.payloadAddr = some a ↔ a.slot = s.act.other ∧ a.index.val = s.rxIdx.toNat := by
  unfold State.payloadAddr State.inactive
  split
  · next h =>
    rcases a with ⟨k, i⟩
    simp only [Option.some.injEq, BufAddr.mk.injEq, Fin.ext_iff]
    exact ⟨fun e => ⟨e.1.symm, e.2.symm⟩, fun e => ⟨e.1.symm, e.2.symm⟩⟩
  · next h =>
    have := a.index.isLt
    simp
    omega

theorem payloadAddr_eq_none {s : State} : s.payloadAddr = none ↔ 10 ≤ s.rxIdx.toNat := by
  unfold State.payloadAddr
  split <;> simp_all

/-- Header or payload, a byte's store is the only one: the bytes after a payload byte. -/
theorem readBuf_receivePayload (b : Byte) (s : State) (a : BufAddr) :
    (receivePayload b s).readBuf a = if s.payloadAddr = some a then b else s.readBuf a := by
  have e : (receivePayload b s).buf = (storePayload b s).buf := by
    unfold receivePayload
    dsimp only
    split <;> simp
  show (receivePayload b s).buf.read a.cell = _
  rw [e]
  show (storePayload b s).readBuf a = _
  unfold storePayload
  split
  · next c hc =>
    rw [State.readBuf_writeBuf, hc]
    by_cases h : a = c
    · simp [h]
    · rw [if_neg h, if_neg (fun e => h (Option.some.inj e).symm)]
  · next hc => simp [hc]

/-- Every cell but the one stored to is as it was. -/
theorem read_receivePayload (b : Byte) (s : State) {c : Nat} (h : ∀ a, s.payloadAddr = some a → c ≠ a.cell) :
    (receivePayload b s).buf.read c = s.buf.read c := by
  have e : (receivePayload b s).buf = (storePayload b s).buf := by
    unfold receivePayload
    dsimp only
    split <;> simp
  rw [e]
  unfold storePayload
  split
  · next a ha => rw [State.writeBuf_buf, Memory.read_write, if_neg (h a ha)]
  · rfl

theorem buf_receivePayload_of_none {s : State} (h : s.payloadAddr = none) (b : Byte) :
    (receivePayload b s).buf = s.buf := by
  unfold receivePayload storePayload
  dsimp only
  rw [h]
  split <;> simp

/-- The counters after a payload byte that is the last. -/
theorem receivePayload_last {s : State} (h : s.rxRem = 1#4) (b : Byte) :
    (receivePayload b s).rxRem = 0#4 ∧ (receivePayload b s).rxIdx = 0#4 ∧ (receivePayload b s).cmdReady = true ∧
      (receivePayload b s).freeCount = s.freeCount := by
  unfold receivePayload
  rw [if_pos (by rw [h]; rfl)]
  simp

/-- The counters after a payload byte that is not the last, in a state whose index can be counted on. -/
theorem receivePayload_more {s : State} (h1 : s.rxRem ≠ 1#4) (hi : s.rxIdx.toNat + 1 < 16)
    (b : Byte) :
    (receivePayload b s).rxRem = s.rxRem - 1#4 ∧ (receivePayload b s).rxIdx = s.rxIdx + 1#4 ∧
      (receivePayload b s).cmdReady = s.cmdReady ∧ (receivePayload b s).freeCount = s.freeCount := by
  have h2 : s.rxRem - 1#4 ≠ 0#4 := fun e => h1 (by bv_omega)
  unfold receivePayload advanceIndex
  dsimp only
  rw [if_neg h2, if_pos (by simpa using hi)]
  simp

/-- In every state a payload byte counts `rx_rem` down by one. -/
@[simp] theorem receivePayload_rxRem (b : Byte) (s : State) : (receivePayload b s).rxRem = s.rxRem - 1#4 := by
  unfold receivePayload
  dsimp only
  split
  · next h => simp [h]
  · simp

theorem wf_receivePayload {s : State} (h : Memory.wf s.buf) (b : Byte) : Memory.wf (receivePayload b s).buf := by
  have e : (receivePayload b s).buf = (storePayload b s).buf := by
    unfold receivePayload
    dsimp only
    split <;> simp
  rw [e]
  unfold storePayload
  split
  · exact State.wf_writeBuf h _ _
  · exact h

/-- A byte never clears `cmd_ready`, and sets it only as the last payload byte (41_command_receiver.md R97, R101). -/
theorem cmdReady_receive (b : Byte) (s : State) :
    (receive b (receiveHeader b) s).cmdReady = (s.cmdReady || decide (s.rxRem = 1#4)) := by
  by_cases hr : s.rxRem = 0#4
  · rw [receive_of_awaiting hr, receiveHeader_cmdReady, loadStatus_cmdReady, hr]
    simp
  · rw [receive_of_payload hr]
    unfold receivePayload
    dsimp only
    split
    · next h =>
      have : s.rxRem = 1#4 := by
        have h : s.rxRem - 1#4 = 0#4 := h
        bv_omega
      simp [this]
    · next h =>
      have : s.rxRem ≠ 1#4 := fun e => h (by show s.rxRem - 1#4 = 0#4; rw [e]; rfl)
      rw [advanceIndex_cmdReady]
      show (storePayload b (loadStatus s)).cmdReady = _
      simp [this]

/-- A payload byte stores to the inactive slot only. -/
theorem readBuf_receivePayload_active (b : Byte) (s : State) (k : Fin 10) :
    (receivePayload b s).readBuf ⟨s.act, k⟩ = s.readBuf ⟨s.act, k⟩ := by
  rw [readBuf_receivePayload, if_neg]
  intro h
  have := (payloadAddr_eq_some.1 h).1
  simp at this

end Sys2Proof.Machine
end

