-- ==== Sys2Proof/Laws/Step.lean ====
section
/-! SUPPORT. What exec and step can do, said once: every operation is one of a few shared operations. -/

namespace Sys2Proof.Machine

/-! ### Nibbles of a byte and of an event word -/

@[simp] theorem highNibble_append (h l : Nibble) : highNibble (h ++ l) = h := by
  unfold highNibble
  exact BitVec.extractLsb'_append_eq_left

@[simp] theorem lowNibble_append (h l : Nibble) : lowNibble (h ++ l) = l := by
  unfold lowNibble
  exact BitVec.extractLsb'_append_eq_right

@[simp] theorem append_nibbles (b : Byte) : highNibble b ++ lowNibble b = b := by
  refine BitVec.eq_of_getLsbD_eq fun i hi => ?_
  simp only [highNibble, lowNibble, BitVec.getLsbD_append, BitVec.getLsbD_extractLsb']
  by_cases h : i < 4
  · simp [h]
  · have : i - 4 < 4 := by omega
    have e : 4 + (i - 4) = i := by omega
    simp [h, this, e]

@[simp] theorem eventKind_append (k : Nibble) (o : Byte) : eventKind (k ++ o) = k := by
  unfold eventKind
  exact BitVec.extractLsb'_append_eq_left

@[simp] theorem eventOperand_append (k : Nibble) (o : Byte) : eventOperand (k ++ o) = o := by
  unfold eventOperand
  exact BitVec.extractLsb'_append_eq_right

@[simp] theorem append_kind_operand (w : EventWord) : eventKind w ++ eventOperand w = w := by
  refine BitVec.eq_of_getLsbD_eq fun i hi => ?_
  simp only [eventKind, eventOperand, BitVec.getLsbD_append, BitVec.getLsbD_extractLsb']
  by_cases h : i < 8
  · simp [h]
  · have : i - 8 < 4 := by omega
    have e : 8 + (i - 8) = i := by omega
    simp [h, this, e]

/-! ### exec -/

/-- The header effect of a byte, by its high nibble (41_command_receiver.md R91). -/
theorem receiveHeader_append (h l : Nibble) :
    receiveHeader (h ++ l) =
      if h = 0x8#4 then headerCommand l else if h = 0x0#4 then headerIdle else protocolError := by
  funext s
  simp only [receiveHeader, highNibble_append, lowNibble_append, Config.hdrCmd, Config.hdrIdle]
  split
  · rfl
  · split <;> rfl

/-- Every inbound byte class is the reception of its byte. -/
theorem exec_byteClass {i : Instr} {b : Byte} (h : encode i = .byte b) (s : State) :
    exec i s = .next (receive b (receiveHeader b) s) := by
  cases i <;> simp only [encode, Code.byte.injEq, reduceCtorEq] at h <;> subst h
  case idle n => rw [receiveHeader_append]; rfl
  case data b => rfl
  all_goals first
    | (rw [receiveHeader_append]; rfl)
    | rfl

/-- What a next state of `exec` is: the six shapes of operation. -/
theorem exec_cases {i : Instr} {s t : State} (h : exec i s = .next t) :
    (∃ b, (encode i = .byte b ∨ i = .rxByte b) ∧ t = receive b (receiveHeader b) s) ∨
    (∃ v, i = .dbTick v ∧ t = tickDivide (resetCheck (dbUpdate v s))) ∨
    (i = .pwmTick ∧
      t = { s with portData := s.portValue, pwmIndex := BitVec.ofNat 8 ((s.pwmIndex.toNat + 1) % 256) }) ∨
    (∃ m, i = .consume m ∧
      t = { clearEdges (s.matchedEdges m) s with
        out := { s.out with consumeResp := some (s.matchedEdges m) } }) ∨
    (i = .animTick ∧ t = animTick s) ∨ (i = .resetEnter ∧ t = resetEnter s) ∨
    ((i = .por ∨ i = .wdtFire ∧ s.wdtArmed = true) ∧ t = restart s) := by
  cases i
  case por => exact .inr (.inr (.inr (.inr (.inr (.inr ⟨.inl rfl, (Host.Outcome.next.inj h).symm⟩)))))
  case dbTick v => exact .inr (.inl ⟨v, rfl, (Host.Outcome.next.inj h).symm⟩)
  case pwmTick => exact .inr (.inr (.inl ⟨rfl, (Host.Outcome.next.inj h).symm⟩))
  case rxByte b => exact .inl ⟨b, .inr rfl, (Host.Outcome.next.inj h).symm⟩
  case consume m => exact .inr (.inr (.inr (.inl ⟨m, rfl, (Host.Outcome.next.inj h).symm⟩)))
  case wdtFire =>
    simp only [exec, execWdtFire] at h
    split at h
    · next ha =>
      exact .inr (.inr (.inr (.inr (.inr (.inr ⟨.inr ⟨rfl, ha⟩, (Host.Outcome.next.inj h).symm⟩)))))
    · cases h
  case animTick => exact .inr (.inr (.inr (.inr (.inl ⟨rfl, (Host.Outcome.next.inj h).symm⟩))))
  case resetEnter => exact .inr (.inr (.inr (.inr (.inr (.inl ⟨rfl, (Host.Outcome.next.inj h).symm⟩)))))
  all_goals
    rw [exec_byteClass rfl] at h
    exact .inl ⟨_, .inl rfl, (Host.Outcome.next.inj h).symm⟩

/-! ### step -/

/-- What a next state of `step` is: the outputs fall, and the next event's operation is performed, if it is one that a
strobe starts; an annotation is taken off. -/
theorem step_cases {s t : State} (h : step s = .next t) :
    (s.events = [] ∧ t = { s with out := Outputs.quiet }) ∨
    (∃ w rest i, s.events = w :: rest ∧ decodeEvent w = .ok i ∧ i.isExternal = false ∧
      t = { s with events := rest, out := Outputs.quiet }) ∨
    (∃ w rest i, s.events = w :: rest ∧ decodeEvent w = .ok i ∧ i.isExternal = true ∧
      exec i { s with events := rest, out := Outputs.quiet } = .next t) := by
  unfold step deliver at h
  cases he : s.events with
  | nil =>
    rw [he] at h
    exact .inl ⟨rfl, (Host.Outcome.next.inj h).symm⟩
  | cons w rest =>
    rw [he] at h
    cases hd : decodeEvent w with
    | ok i =>
      simp only [hd] at h
      cases hx : i.isExternal with
      | true =>
        simp only [hx] at h
        exact .inr (.inr ⟨w, rest, i, rfl, hd, hx, h⟩)
      | false =>
        simp only [hx] at h
        exact .inr (.inl ⟨w, rest, i, rfl, hd, hx, (Host.Outcome.next.inj h).symm⟩)
    | error e =>
      simp only [hd] at h
      cases h

/-- Several operations are the first, then the others. -/
theorem execAll_cons {i : Instr} {is : List Instr} {s t : State} (h : exec i s = .next t) :
    execAll (i :: is) s = execAll is t := by
  simp [execAll, h]

@[simp] theorem execAll_nil (s : State) : execAll [] s = .next s := rfl

/-- Operations in two parts. -/
theorem execAll_append {is js : List Instr} {s t : State} (h : execAll is s = .next t) :
    execAll (is ++ js) s = execAll js t := by
  induction is generalizing s with
  | nil => cases h; rfl
  | cons i is ih =>
    cases he : exec i s with
    | next u => rw [execAll_cons he] at h; rw [List.cons_append, execAll_cons he]; exact ih h
    | fault f => cases f
    | refused r => simp [execAll, he] at h

end Sys2Proof.Machine
end

