-- ==== Sys2Proof/Laws/PerInstr.lean ====
section
/-! SUPPORT. The family EncodesItsRow: every instruction's encoding is a word of its row of spec/opcode_table.json, with
the row's width, mask and pattern. -/

namespace Sys2Proof.Laws.EncodesItsRow

open Sys2Proof Sys2Proof.Machine

/-- A row of spec/opcode_table.json: its bits, and which of them it fixes to what. -/
structure Row where
  nbits : Nat
  mask : Nat
  pattern : Nat
  deriving DecidableEq, Repr

/-- The rows, written from spec/opcode_table.json (formats HDR and PAY: keys "mask" and "match"; format EVT: the fixed
bits of key "encoding"). -/
def row : Instr → Row
  | .idle _ => { nbits := 8, mask := 0xF0, pattern := 0x00 }
  | .cmd0 => { nbits := 8, mask := 0xFF, pattern := 0x80 }
  | .cmd1 => { nbits := 8, mask := 0xFF, pattern := 0x81 }
  | .cmd2 => { nbits := 8, mask := 0xFF, pattern := 0x82 }
  | .cmd3 => { nbits := 8, mask := 0xFF, pattern := 0x83 }
  | .cmd4 => { nbits := 8, mask := 0xFF, pattern := 0x84 }
  | .cmd5 => { nbits := 8, mask := 0xFF, pattern := 0x85 }
  | .cmd6 => { nbits := 8, mask := 0xFF, pattern := 0x86 }
  | .cmd7 => { nbits := 8, mask := 0xFF, pattern := 0x87 }
  | .cmd8 => { nbits := 8, mask := 0xFF, pattern := 0x88 }
  | .cmd9 => { nbits := 8, mask := 0xFF, pattern := 0x89 }
  | .cmd10 => { nbits := 8, mask := 0xFF, pattern := 0x8A }
  | .cmd11 => { nbits := 8, mask := 0xFF, pattern := 0x8B }
  | .cmd12 => { nbits := 8, mask := 0xFF, pattern := 0x8C }
  | .cmd13 => { nbits := 8, mask := 0xFF, pattern := 0x8D }
  | .cmd14 => { nbits := 8, mask := 0xFF, pattern := 0x8E }
  | .cmd15 => { nbits := 8, mask := 0xFF, pattern := 0x8F }
  | .bad1 _ => { nbits := 8, mask := 0xF0, pattern := 0x10 }
  | .bad2 _ => { nbits := 8, mask := 0xF0, pattern := 0x20 }
  | .bad3 _ => { nbits := 8, mask := 0xF0, pattern := 0x30 }
  | .bad4 _ => { nbits := 8, mask := 0xF0, pattern := 0x40 }
  | .bad5 _ => { nbits := 8, mask := 0xF0, pattern := 0x50 }
  | .bad6 _ => { nbits := 8, mask := 0xF0, pattern := 0x60 }
  | .bad7 _ => { nbits := 8, mask := 0xF0, pattern := 0x70 }
  | .bad9 _ => { nbits := 8, mask := 0xF0, pattern := 0x90 }
  | .badA _ => { nbits := 8, mask := 0xF0, pattern := 0xA0 }
  | .badB _ => { nbits := 8, mask := 0xF0, pattern := 0xB0 }
  | .badC _ => { nbits := 8, mask := 0xF0, pattern := 0xC0 }
  | .badD _ => { nbits := 8, mask := 0xF0, pattern := 0xD0 }
  | .badE _ => { nbits := 8, mask := 0xF0, pattern := 0xE0 }
  | .badF _ => { nbits := 8, mask := 0xF0, pattern := 0xF0 }
  | .data _ => { nbits := 8, mask := 0x00, pattern := 0x00 }
  | .por => { nbits := 12, mask := 0xFFF, pattern := 0x000 }
  | .dbTick _ => { nbits := 12, mask := 0xFF0, pattern := 0x100 }
  | .pwmTick => { nbits := 12, mask := 0xFFF, pattern := 0x200 }
  | .rxByte _ => { nbits := 12, mask := 0xF00, pattern := 0x300 }
  | .consume _ => { nbits := 12, mask := 0xFF0, pattern := 0x400 }
  | .wdtFire => { nbits := 12, mask := 0xFFF, pattern := 0x500 }
  | .animTick => { nbits := 12, mask := 0xFFF, pattern := 0x600 }
  | .resetEnter => { nbits := 12, mask := 0xFFF, pattern := 0x700 }

/-- The bits of what is encoded. -/
def bits : Code → Nat
  | .byte b => b.toNat
  | .event w => w.toNat

/-- How many bits an encoding has. -/
def width : Code → Nat
  | .byte _ => 8
  | .event _ => 12

/-- The encoding of `i` has the width of `i`'s row and the row's fixed bits. -/
def Statement (i : Instr) : Prop :=
  width (encode i) = (row i).nbits ∧ bits (encode i) &&& (row i).mask = (row i).pattern

theorem idle : ∀ n : Nibble, Statement (.idle n) := by unfold Statement; decide
theorem cmd0 : Statement .cmd0 := by unfold Statement; decide
theorem cmd1 : Statement .cmd1 := by unfold Statement; decide
theorem cmd2 : Statement .cmd2 := by unfold Statement; decide
theorem cmd3 : Statement .cmd3 := by unfold Statement; decide
theorem cmd4 : Statement .cmd4 := by unfold Statement; decide
theorem cmd5 : Statement .cmd5 := by unfold Statement; decide
theorem cmd6 : Statement .cmd6 := by unfold Statement; decide
theorem cmd7 : Statement .cmd7 := by unfold Statement; decide
theorem cmd8 : Statement .cmd8 := by unfold Statement; decide
theorem cmd9 : Statement .cmd9 := by unfold Statement; decide
theorem cmd10 : Statement .cmd10 := by unfold Statement; decide
theorem cmd11 : Statement .cmd11 := by unfold Statement; decide
theorem cmd12 : Statement .cmd12 := by unfold Statement; decide
theorem cmd13 : Statement .cmd13 := by unfold Statement; decide
theorem cmd14 : Statement .cmd14 := by unfold Statement; decide
theorem cmd15 : Statement .cmd15 := by unfold Statement; decide
theorem bad1 : ∀ n : Nibble, Statement (.bad1 n) := by unfold Statement; decide
theorem bad2 : ∀ n : Nibble, Statement (.bad2 n) := by unfold Statement; decide
theorem bad3 : ∀ n : Nibble, Statement (.bad3 n) := by unfold Statement; decide
theorem bad4 : ∀ n : Nibble, Statement (.bad4 n) := by unfold Statement; decide
theorem bad5 : ∀ n : Nibble, Statement (.bad5 n) := by unfold Statement; decide
theorem bad6 : ∀ n : Nibble, Statement (.bad6 n) := by unfold Statement; decide
theorem bad7 : ∀ n : Nibble, Statement (.bad7 n) := by unfold Statement; decide
theorem bad9 : ∀ n : Nibble, Statement (.bad9 n) := by unfold Statement; decide
theorem badA : ∀ n : Nibble, Statement (.badA n) := by unfold Statement; decide
theorem badB : ∀ n : Nibble, Statement (.badB n) := by unfold Statement; decide
theorem badC : ∀ n : Nibble, Statement (.badC n) := by unfold Statement; decide
theorem badD : ∀ n : Nibble, Statement (.badD n) := by unfold Statement; decide
theorem badE : ∀ n : Nibble, Statement (.badE n) := by unfold Statement; decide
theorem badF : ∀ n : Nibble, Statement (.badF n) := by unfold Statement; decide
theorem data (b : Byte) : Statement (.data b) := ⟨rfl, Nat.and_zero _⟩
theorem por : Statement .por := by unfold Statement; decide
theorem dbTick : ∀ n : Nibble, Statement (.dbTick n) := by unfold Statement; decide
theorem pwmTick : Statement .pwmTick := by unfold Statement; decide
theorem rxByte : ∀ b : Byte, Statement (.rxByte b) := by unfold Statement; decide
theorem consume : ∀ n : Nibble, Statement (.consume n) := by unfold Statement; decide
theorem wdtFire : Statement .wdtFire := by unfold Statement; decide
theorem animTick : Statement .animTick := by unfold Statement; decide
theorem resetEnter : Statement .resetEnter := by unfold Statement; decide

end Sys2Proof.Laws.EncodesItsRow
end

