-- ==== Sys2Proof/Tests/Slice0.lean ====
section
/-! SUPPORT. The model's own tests. Expected results come from spec/95_test_vectors.md (V and P numbers), from the tables
of spec/30_encoding.md, or from the rule named; witnesses show that the hypotheses of the statements can be met. -/

namespace Sys2Proof.Tests

open Sys2Proof Sys2Proof.Machine

/-! ### Helpers -/

/-- The outcome is a next state with property `p`. -/
def nextHas (o : Host.Outcome State Fault Refusal) (p : State → Bool) : Bool :=
  match o with
  | .next t => p t
  | .fault _ => false
  | .refused _ => false

/-- The outcome is this refusal. -/
def refuses (o : Host.Outcome State Fault Refusal) (r : Refusal) : Bool :=
  match o with
  | .next _ => false
  | .fault _ => false
  | .refused q => decide (q = r)

/-- The ten bytes of a slot. -/
def slotBytes (s : State) (k : Slot) : List Byte := (List.finRange 10).map fun i => s.readBuf ⟨k, i⟩

/-- A command-buffer space holding these bytes. -/
def space (b0 b1 : List Byte) : Memory := Memory.writeBytes (Memory.writeBytes [] 0 b0) 10 b1

/-! ### WellFormed: ill-formed terms are refused -/

theorem test_data_does_not_fit_awaiting_header : Instr.fits .awaitingHeader (.data 0x8A#8) = false := by decide

theorem test_headers_do_not_fit_in_payload :
    Instr.fits .inPayload (.idle 5#4) = false ∧ Instr.fits .inPayload .cmd3 = false ∧
      Instr.fits .inPayload (.badF 0#4) = false := by decide

theorem test_internal_operations_are_not_external :
    Instr.animTick.isExternal = false ∧ Instr.resetEnter.isExternal = false ∧ (Instr.data 0#8).isExternal = false ∧
      Instr.cmd0.isExternal = false := by decide

/-! ### Decoding: a word for each constructor (30_encoding.md R61, R62, R69, R72) -/

theorem test_decode_command_headers :
    [0b10000000#8, 0b10000001#8, 0b10000010#8, 0b10000011#8, 0b10000100#8, 0b10000101#8, 0b10000110#8, 0b10000111#8,
      0b10001000#8, 0b10001001#8, 0b10001010#8, 0b10001011#8, 0b10001100#8, 0b10001101#8, 0b10001110#8,
      0b10001111#8].map (decodeByte .awaitingHeader) =
    [.cmd0, .cmd1, .cmd2, .cmd3, .cmd4, .cmd5, .cmd6, .cmd7, .cmd8, .cmd9, .cmd10, .cmd11, .cmd12, .cmd13, .cmd14,
      .cmd15] := by decide

theorem test_decode_other_headers :
    [0b00000000#8, 0b00001111#8, 0b00010000#8, 0b00100001#8, 0b00110010#8, 0b01000011#8, 0b01010100#8, 0b01100101#8,
      0b01110110#8, 0b10010101#8, 0b10101000#8, 0b10111001#8, 0b11001010#8, 0b11011011#8, 0b11101100#8,
      0b11111101#8].map (decodeByte .awaitingHeader) =
    [.idle 0#4, .idle 15#4, .bad1 0#4, .bad2 1#4, .bad3 2#4, .bad4 3#4, .bad5 4#4, .bad6 5#4, .bad7 6#4, .bad9 5#4,
      .badA 8#4, .badB 9#4, .badC 10#4, .badD 11#4, .badE 12#4, .badF 13#4] := by decide

theorem test_decode_payload :
    [0b10001010#8, 0b00000000#8, 0b10010101#8].map (decodeByte .inPayload) =
      [.data 0x8A#8, .data 0x00#8, .data 0x95#8] := by decide

/-- 95_test_vectors.md section 2. -/
theorem test_decode_events :
    ([0x000#12, 0x100#12, 0x101#12, 0x10C#12, 0x10F#12, 0x200#12, 0x500#12, 0x600#12].map decodeEvent).map
        Except.toOption =
      [some .por, some (.dbTick 0b0000#4), some (.dbTick 0b0001#4), some (.dbTick 0b1100#4), some (.dbTick 0b1111#4),
        some .pwmTick, some .wdtFire, some .animTick] ∧
    ([0x300#12, 0x380#12, 0x38A#12, 0x395#12, 0x3FF#12, 0x400#12, 0x40F#12, 0x700#12].map decodeEvent).map
        Except.toOption =
      [some (.rxByte 0x00#8), some (.rxByte 0x80#8), some (.rxByte 0x8A#8), some (.rxByte 0x95#8),
        some (.rxByte 0xFF#8), some (.consume 0x0#4), some (.consume 0xF#4), some .resetEnter] := by decide

/-- 95_test_vectors.md section 2: ill-formed words, refused. -/
theorem test_ill_formed_events :
    ([0x110#12, 0x201#12, 0x410#12, 0x501#12, 0x800#12, 0xFFF#12, 0x001#12, 0x601#12, 0x701#12].map decodeEvent).all
      (fun r => r.toOption.isNone) = true := by decide

theorem test_step_refuses_ill_formed_event :
    refuses (step (State.reset.withEvent 0x110#12)) (.illFormedEvent (.operandNotZero 0x1#4 0x10#8)) = true := by decide

/-- P1, P4: the annotations `. ANIM` and `. RESET_ENTER` under a `TICK` are no inputs: the tick has performed the operation,
and their words perform nothing more (30_encoding.md R72). -/
theorem test_annotations_perform_nothing :
    nextHas (step { State.reset with cmdReady := true, buf := space [] [7], events := [0x600#12, 0x100#12] })
      (fun t => t.cmdReady ∧ t.act = .zero ∧ t.events = [0x100#12]) = true ∧
    nextHas (step { State.reset with events := [0x700#12] })
      (fun t => decide (t = State.reset)) = true := by decide

/-- 40_debounce.md R83: the internal rows run as parts of the debounce tick that performs them. -/
theorem test_internal_table_words :
    nextHas (step ({ State.reset with cmdReady := true }.withFetchWord 12 0x600)) (fun t => t.act = .one ∧ !t.cmdReady) =
      true ∧
    nextHas (step (State.reset.withFetchWord 12 0x700)) (fun t => t.rsState = .resetting ∧ t.rstOe ∧ t.wdtArmed) =
      true := by decide

/-- The table's words through the host's two entry points: `CMD3` as a byte, `DB_TICK` as an event word. -/
theorem test_table_words :
    decodeTableWord 8 0x83 = some .cmd3 ∧ decodeTableWord 12 0x10C = some (.dbTick 0b1100#4) ∧
    nextHas (step (State.reset.withFetchWord 8 0x83)) (fun t => t.rxRem = 3#4 ∧ t.events = []) = true ∧
    nextHas (step (State.reset.withFetchWord 12 0x10C)) (fun t => t.dbCt0 = 0b1100#4 ∧ t.events = []) = true := by
  decide

/-! ### The command byte assembler -/

/-- V11: the status byte follows the debounced state. -/
theorem test_idle_loads_status :
    nextHas (exec (.idle 0#4) { State.reset with dbState := 0b0101#4 })
      (fun t => t.txData = 0x05#8 ∧ t.out.txLoad ∧ t.rxRem = 0#4 ∧ t.rxIdx = 0#4) = true := by decide

/-- V12: `RX 0x05` changes nothing. -/
theorem test_idle_changes_nothing :
    nextHas (exec (.idle 5#4) State.reset)
      (fun t => decide ({ t with out := Outputs.quiet } = State.reset)) = true := by decide

/-- V12, V16: `CMD0` raises nothing, and keeps a waiting command. -/
theorem test_cmd0_keeps_waiting_command :
    nextHas (exec .cmd0 { State.reset with cmdReady := true, buf := space [] [9#8] })
      (fun t => t.cmdReady ∧ t.rxRem = 0#4 ∧ slotBytes t .one = [9#8, 0, 0, 0, 0, 0, 0, 0, 0, 0]) = true := by decide

/-- R92: each header starts a payload of its own length. -/
theorem test_headers_start_payloads :
    ([Instr.cmd1, .cmd2, .cmd3, .cmd4, .cmd5, .cmd6, .cmd7, .cmd8, .cmd9, .cmd10, .cmd11, .cmd12, .cmd13, .cmd14,
        .cmd15].zipIdx.all fun (i, n) =>
      nextHas (exec i { State.reset with dbState := 0b1111#4 })
        (fun t => t.rxRem.toNat = n + 1 ∧ t.rxIdx = 0#4 ∧ t.txData = 0x0F#8 ∧ !t.cmdReady)) = true := by decide

/-- V12, E5: an unrecognised header changes nothing but the status byte. -/
theorem test_bad_headers_change_nothing :
    ([Instr.bad1 0#4, .bad2 1#4, .bad3 2#4, .bad4 3#4, .bad5 4#4, .bad6 5#4, .bad7 15#4, .bad9 5#4, .badA 8#4,
        .badB 9#4, .badC 10#4, .badD 11#4, .badE 12#4, .badF 15#4].all fun i =>
      nextHas (exec i State.reset) (fun t => decide ({ t with out := Outputs.quiet } = State.reset))) = true := by decide

/-- V13: the first payload byte goes to index 0 of the inactive buffer. -/
theorem test_data_stores_in_inactive_buffer :
    nextHas (exec (.data 0x11#8) { State.reset with rxRem := 3#4 })
      (fun t => slotBytes t .one = [17, 0, 0, 0, 0, 0, 0, 0, 0, 0] ∧ slotBytes t .zero = List.replicate 10 0#8 ∧
        t.rxRem = 2#4 ∧ t.rxIdx = 1#4 ∧ !t.cmdReady) = true := by decide

/-- V14: a byte at index 10 is counted and not stored; the last byte sets the flag. -/
theorem test_data_beyond_buffer :
    nextHas (exec (.data 0x0B#8) { State.reset with act := .one, rxRem := 2#4, rxIdx := 10#4 })
      (fun t => t.buf = [] ∧ t.rxRem = 1#4 ∧ t.rxIdx = 11#4 ∧ !t.cmdReady) = true ∧
    nextHas (exec (.data 0x0C#8) { State.reset with act := .one, rxRem := 1#4, rxIdx := 11#4 })
      (fun t => t.buf = [] ∧ t.rxRem = 0#4 ∧ t.rxIdx = 0#4 ∧ t.cmdReady) = true := by decide

/-- V15: a header-like byte inside a payload is data. -/
theorem test_rxByte_header_in_payload_is_data :
    nextHas (exec (.rxByte 0x8A#8) { State.reset with rxRem := 2#4 })
      (fun t => slotBytes t .one = [138, 0, 0, 0, 0, 0, 0, 0, 0, 0] ∧ t.rxRem = 1#4 ∧ t.rxIdx = 1#4) = true := by decide

/-- V31: the status byte of a payload byte, and a store into the pattern already written. -/
theorem test_rxByte_payload_after_reset_enter :
    nextHas (exec (.rxByte 6#8)
        { State.reset with
          dbState := 0b1100#4, rxRem := 7#4, rxIdx := 3#4, cmdReady := true, rsState := .resetting,
          buf := space [] [255, 255, 255, 0, 4, 0, 0, 0, 0, 4] })
      (fun t => slotBytes t .one = [255, 255, 255, 6, 4, 0, 0, 0, 0, 4] ∧ t.txData = 0x0C#8 ∧ t.rxRem = 6#4 ∧
        t.rxIdx = 4#4) = true := by decide

/-! ### The debounce sampler -/

/-- V5 tick 2: main's count is cleared, down flips, up starts counting. -/
theorem test_dbTick_buttons_are_independent :
    nextHas (exec (.dbTick 0b0110#4) { State.reset with dbCt0 := 0b0101#4, tickCnt := 1#2 })
      (fun t => t.dbState = 0b0100#4 ∧ t.dbCt0 = 0b0010#4 ∧ t.dbCt1 = 0#4 ∧ t.pressEdge = 0b0100#4 ∧
        t.tickCnt = 2#2) = true := by decide

/-- V29 tick 4: releasing main leaves exactly setup and down, and the sequence starts. -/
theorem test_dbTick_triggers_reset_sequence :
    nextHas (exec (.dbTick 0b1100#4)
        { State.reset with dbState := 0b1101#4, dbCt0 := 0b0001#4, pressEdge := 0b1101#4 })
      (fun t => t.dbState = 0b1100#4 ∧ t.pressEdge = 0b1101#4 ∧ t.rsState = .resetting ∧ t.rstOe ∧ t.wdtArmed ∧
        t.cmdReady ∧ t.act = .zero ∧ t.tickCnt = 1#2 ∧
        slotBytes t .one = [255, 255, 255, 0, 4, 0, 0, 0, 0, 4]) = true := by decide

/-- V9: a partial mask. -/
theorem test_consume_partial_mask :
    nextHas (exec (.consume 0x3#4) { State.reset with pressEdge := 0b0101#4 })
      (fun t => t.out.consumeResp = some 0x1#4 ∧ t.pressEdge = 0b0100#4) = true := by decide

/-- V10: a mask that selects nothing. -/
theorem test_consume_nothing :
    nextHas (exec (.consume 0xE#4) { State.reset with pressEdge := 0b0001#4 })
      (fun t => t.out.consumeResp = some 0x0#4 ∧ t.pressEdge = 0b0001#4) = true := by decide

/-! ### The animation datapath -/

/-- 95_test_vectors.md section 3.2, the corner values. -/
theorem test_lin_corners :
    [0#8, 1, 2, 127, 128, 191, 192, 193, 200, 254, 255].map lin = [0#8, 0, 1, 63, 64, 127, 128, 130, 144, 252, 254] := by
  decide

/-- V20. -/
theorem test_ramp_table :
    [ramp 0 255 (effectiveSlew 0), ramp 255 0 (effectiveSlew 0), ramp 0 255 255, ramp 0 255 1, ramp 250 255 16,
      ramp 5 0 16, ramp 100 100 7, ramp 0 200 100, ramp 100 200 100, ramp 200 0 128, ramp 72 0 128, ramp 254 255 255,
      ramp 10 21 10, ramp 48 255 64] = [255#8, 0, 255, 1, 255, 0, 100, 100, 200, 72, 0, 255, 20, 112] := by decide

/-- V21: the swap and the first tick of the new command. -/
theorem test_animTick_swaps_then_animates :
    nextHas (exec .animTick
        { State.reset with
          act := .one, cmdReady := true, phase := .one, pt := 7#8, cur := ⟨40, 50, 60⟩,
          buf := space [1, 2, 3, 4, 5, 6, 7, 8, 9, 10] [9, 9, 9, 9, 9, 9, 9, 9, 9, 9] })
      (fun t => t.act = .zero ∧ slotBytes t .one = List.replicate 10 0#8 ∧ !t.cmdReady ∧ t.cur = ⟨36, 46, 56⟩ ∧
        t.duty = ⟨18, 23, 28⟩ ∧ t.pt = 1#8 ∧ t.phase = .zero) = true := by decide

/-- P2, animation tick 3: phase 0 is left at its third tick, with the values ramped towards its target. -/
theorem test_animTick_leaves_phase :
    nextHas (exec .animTick
        { State.reset with
          act := .one, pt := 2#8, cur := ⟨32, 32, 32⟩, buf := space [] [200, 100, 50, 16, 3, 0, 0, 255, 64, 0] })
      (fun t => t.cur = ⟨48, 48, 48⟩ ∧ t.duty = ⟨24, 24, 24⟩ ∧ t.phase = .one ∧ t.pt = 0#8) = true := by decide

/-! ### PWM, reset sequence, restarts -/

/-- V26 at 64: red goes off, green stays off, blue is on. -/
theorem test_pwmTick_writes_port :
    nextHas (exec .pwmTick { State.reset with duty := ⟨64, 0, 254⟩, pwmIndex := 64#8 })
      (fun t => t.portData = 0b00100#5 ∧ t.pwmIndex = 65#8) = true := by decide

/-- V26 at 255: all off, and the counter starts over. -/
theorem test_pwmTick_wraps :
    nextHas (exec .pwmTick { State.reset with duty := ⟨64, 0, 254⟩, pwmIndex := 255#8 })
      (fun t => t.portData = 0b00000#5 ∧ t.pwmIndex = 0#8) = true := by decide

/-- P4 tick 2, the internal operation by itself, with a payload in flight (V31: the parser is untouched). -/
theorem test_resetEnter :
    nextHas (exec .resetEnter { State.reset with rxRem := 7#4, rxIdx := 3#4, buf := space [] [9, 8, 7] })
      (fun t => slotBytes t .one = [255, 255, 255, 0, 4, 0, 0, 0, 0, 4] ∧ t.cmdReady ∧ t.rstOe ∧ t.wdtArmed ∧
        t.rsState = .resetting ∧ t.rxRem = 7#4 ∧ t.rxIdx = 3#4) = true := by decide

/-- V32, first half. -/
theorem test_wdtFire_unarmed_is_refused : refuses (exec .wdtFire State.reset) .watchdogNotArmed = true := by decide

/-- V32, second half. -/
theorem test_wdtFire_restarts :
    nextHas (exec .wdtFire
        { State.reset with wdtArmed := true, rstOe := true, rsState := .resetting, dbState := 0b1100#4, pwmIndex := 9#8 })
      (fun t => decide (t = State.reset)) = true := by decide

/-- R170. -/
theorem test_por :
    nextHas (exec .por { State.reset with buf := space [1, 2] [3], cur := ⟨1, 2, 3⟩, act := .one, pressEdge := 5#4 })
      (fun t => decide (t = State.reset)) = true := by decide

/-- R74: the trace of `CMD`, its header and its record in wire order. -/
theorem test_cmdTrace :
    cmdTrace 200 100 50 16 3 0 0 255 64 0 =
      [0x38A#12, 0x3C8#12, 0x364#12, 0x332#12, 0x310#12, 0x303#12, 0x300#12, 0x300#12, 0x3FF#12, 0x340#12,
        0x300#12] := by decide

/-! ### Witnesses: states and operands that meet the hypotheses of each statement -/

/-- A payload in progress at index 9 of buffer 0, with buffer 1 animating in its phase 1. -/
def busy : State :=
  { State.reset with
    dbState := 0b0100#4, dbCt0 := 0b0001#4, pressEdge := 0b0100#4, tickCnt := 2#2, rxRem := 6#4, rxIdx := 9#4,
    txData := 0x04#8, act := .one, phase := .one, pt := 1#8, cur := ⟨200, 3, 0⟩, duty := ⟨144, 1, 0⟩, pwmIndex := 7#8,
    portData := 0b00011#5, buf := space [7, 7] [1, 2, 3, 4, 5, 6, 7, 8, 9, 10] }

/-- RESETTING, with the flash pattern waiting. -/
def resetting : State :=
  { State.reset with
    dbState := 0b1100#4, pressEdge := 0b1100#4, tickCnt := 2#2, cmdReady := true, rsState := .resetting, rstOe := true,
    wdtArmed := true, buf := space [] [255, 255, 255, 0, 4, 0, 0, 0, 0, 4] }

theorem witness_ByteClassIsChosenByStateAndHighNibble :
    busy.rxRem ≠ 0#4 ∧ resetting.rxRem = 0#4 ∧ highNibble 0x0F#8 = 0x0#4 ∧ highNibble 0x80#8 = 0x8#4 ∧ highNibble 0x8F#8 = 0x8#4 ∧
      highNibble 0x10#8 = 0x1#4 ∧ highNibble 0x7F#8 = 0x7#4 ∧ highNibble 0x90#8 = 0x9#4 ∧
      highNibble 0xFF#8 = 0xF#4 := by decide

theorem witness_EncodeThenDecodeGivesTheInstruction :
    Instr.fits .awaitingHeader (.badF 15#4) = true ∧ Instr.fits .inPayload (.data 0xFF#8) = true ∧
      Instr.fits .inPayload (.consume 15#4) = true := by decide

theorem witness_DecodeThenEncodeGivesTheWord :
    decode .awaitingHeader (.byte 0xFF#8) = .ok (.badF 15#4) ∧
      decode .inPayload (.event 0x700#12) = .ok .resetEnter := ⟨rfl, rfl⟩

theorem witness_StepPerformsTheDecodedEvent :
    (busy.withEvent 0x3C8#12).events = 0x3C8#12 :: [] ∧ decodeEvent 0x3C8#12 = .ok (.rxByte 0xC8#8) ∧
      (Instr.rxByte 0xC8#8).isExternal = true := ⟨rfl, rfl, rfl⟩

theorem witness_StepIdlesOrRefusesIllFormedWords :
    busy.events = [] ∧ (resetting.withEvent 0x600#12).events = 0x600#12 :: [] ∧
      (busy.withEvent 0x700#12).events = 0x700#12 :: [] ∧ (busy.withEvent 0x800#12).events = 0x800#12 :: [] ∧
      decodeEvent 0x800#12 = .error (.unknownKind 0x8#4) := ⟨rfl, rfl, rfl, rfl, rfl⟩

theorem witness_EveryOperationIsTotal : Instr.data 0#8 ≠ .wdtFire ∧ resetting.wdtArmed = true := by decide

theorem witness_CommandHeaderStartsItsPayload : resetting.rxRem = 0#4 := by decide

theorem witness_IdleByteOnlyLoadsTheStatus : resetting.rxRem = 0#4 := by decide

theorem witness_EmptyAndBadHeadersOnlyLoadTheStatus : resetting.rxRem = 0#4 := by decide

theorem witness_EveryByteInPayloadIsData : busy.rxRem ≠ 0#4 ∧ encode (.cmd10) = .byte 0x8A#8 := by decide

theorem witness_PayloadByteIsStoredAndCounted :
    (busy.rxRem ≠ 0#4 ∧ busy.payloadAddr = some ⟨.zero, 9⟩ ∧ busy.rxRem ≠ 1#4) ∧
    ({ State.reset with rxRem := 1#4 }.rxRem = 1#4 ∧
      { State.reset with rxRem := 1#4 }.payloadAddr = some ⟨.one, 0⟩) := by decide

theorem witness_PayloadByteBeyondTheBufferIsOnlyCounted :
    (let s := { State.reset with rxRem := 5#4, rxIdx := 10#4 };
      s.rxRem ≠ 0#4 ∧ 10 ≤ s.rxIdx.toNat ∧ s.rxIdx.toNat + s.rxRem.toNat ≤ 15 ∧ s.rxRem ≠ 1#4) ∧
    (let s := { State.reset with rxRem := 1#4, rxIdx := 14#4 };
      s.rxRem = 1#4 ∧ 10 ≤ s.rxIdx.toNat ∧ s.rxIdx.toNat + s.rxRem.toNat ≤ 15) := by decide

theorem witness_WholeCommandFillsTheInactiveBuffer :
    resetting.rxRem = 0#4 ∧ 1 ≤ [0xC8#8].length ∧ (List.replicate 15 0xC8#8).length ≤ 15 := by decide

theorem witness_UnfinishedCommandRaisesNoFlag :
    State.reset.rxRem = 0#4 ∧ (15 ≤ 15 ∧ (List.replicate 14 0xC8#8).length < 15) ∧ ([] : List Byte).length < 1 := by
  decide

theorem witness_ZeroBytesBringTheParserBack : busy.rxRem.toNat ≤ 6 ∧ busy.rxRem.toNat ≤ 15 := by decide

theorem witness_DebounceTickCountsAndFlipsEachButton :
    (let v : Btn := 0b0101#4;
      -- up agrees
      (v.getLsbD 1 = busy.dbState.getLsbD 1) ∧
      -- main differs a second time
      (v.getLsbD 0 ≠ busy.dbState.getLsbD 0 ∧ 2 ≤ (busy.lane 0).count + 1)) ∧
    -- setup differs a first time
    ((0b1101#4 : Btn).getLsbD 3 ≠ busy.dbState.getLsbD 3 ∧ (busy.lane 3).count + 1 < 2) := by decide

theorem witness_OrdinaryDebounceTickInBitwiseForm :
    (let s := { busy with tickCnt := 1#2 };
      s.dbCt1 = 0#4 ∧ s.tickCnt.toNat < 2 ∧
        s.dbState ^^^ ((0b0101#4 ^^^ s.dbState) &&& s.dbCt0) ≠ 0b1100#4) ∧
    (let s := { resetting with tickCnt := 0#2 };
      s.dbCt1 = 0#4 ∧ s.tickCnt.toNat < 2 ∧ s.rsState = .resetting) := by decide

theorem witness_DebounceTickPerformsItsPartsInOrder :
    (∃ u r : State, u = dbUpdate 0b1100#4 { State.reset with dbCt0 := 0b1100#4 } ∧
      (u.rsState = .normal ∧ u.dbState = 0b1100#4) ∧ exec .resetEnter u = .next r ∧
      { State.reset with dbCt0 := 0b1100#4 }.tickCnt.toNat + 1 < 3) ∧
    (∃ u r : State, u = dbUpdate 0b0000#4 busy ∧ ¬(u.rsState = .normal ∧ u.dbState = 0b1100#4) ∧ r = u ∧
      3 ≤ busy.tickCnt.toNat + 1) :=
  ⟨⟨_, _, rfl, by decide, rfl, by decide⟩, ⟨_, _, rfl, by decide, rfl, by decide⟩⟩

theorem witness_SingleTickSpikeSetsNoEdge :
    busy.dbState.getLsbD 1 = false ∧ (busy.lane 1).count = 0 ∧ (0b0010#4 : Btn).getLsbD 1 = true ∧
      (0b0000#4 : Btn).getLsbD 1 = false := by decide

theorem witness_HeldPressSetsTheEdgeOnce :
    busy.dbState.getLsbD 3 = false ∧ (busy.lane 3).count = 0 ∧ (0b1000#4 : Btn).getLsbD 3 = true := by decide

theorem witness_NoPressEdgeIsLost : ∃ u, exec (.dbTick 0b0101#4) busy = .next u := ⟨_, rfl⟩

theorem witness_RampMovesTowardsTheTargetWithoutOvershoot :
    (0#8).toNat < (255#8).toNat ∧ (100#8 : Byte) = 100#8 ∧ 1 ≤ (1#8).toNat := by decide

theorem witness_ColourCurveHasThreeSegments :
    (127#8).toNat < 128 ∧ (128 ≤ (128#8).toNat ∧ (191#8).toNat < 192) ∧ 192 ≤ (192#8).toNat ∧ 192 ≤ (255#8).toNat := by
  decide

theorem witness_ColourCurveIsMonotoneAndBelow255 :
    (128 ≤ (128#8).toNat ∧ (128#8).toNat < (255#8).toNat) ∧ (191#8).toNat + 1 = (192#8).toNat ∧
      ((126#8).toNat < 128 ∧ (127#8).toNat < 128) := by decide

theorem witness_AnimationTickRampsThenStepsThePhase :
    -- a phase with `time = 10`, not over
    (busy.cmdReady = false ∧ busy.phaseField .time ≠ 0#8 ∧ busy.pt.toNat < (busy.phaseField .time).toNat ∧
      busy.pt.toNat + 1 ≠ (busy.phaseField .time).toNat) ∧
    -- its last tick
    (let s := { busy with pt := 9#8 };
      s.cmdReady = false ∧ s.phaseField .time ≠ 0#8 ∧ s.pt.toNat + 1 = (s.phaseField .time).toNat) ∧
    -- a phase held for ever
    (State.reset.cmdReady = false ∧ State.reset.phaseField .time = 0#8) := by decide

theorem witness_AnimationTickSwapsAReadyCommandFirst : resetting.cmdReady = true := by decide

theorem witness_PhaseLastsExactlyItsTime :
    (let s := { busy with pt := 0#8 };
      s.cmdReady = false ∧ s.pt = 0#8 ∧ s.phaseField .time ≠ 0#8 ∧ 9 < (s.phaseField .time).toNat) := by decide

/-- A held phase with targets 200, 100, 50 and slew 16, reached in 13 ticks. -/
def held : State := { State.reset with act := .one, buf := space [] [200, 100, 50, 16, 0] }

theorem witness_HeldPhaseReachesItsTargetExactly :
    held.cmdReady = false ∧ held.phaseField .time = 0#8 ∧
    ∀ c : Channel,
      (held.phaseField c.field).toNat ≤ (held.cur.get c).toNat + 13 * (effectiveSlew (held.phaseField .slew)).toNat ∧
      (held.cur.get c).toNat ≤
        (held.phaseField c.field).toNat + 13 * (effectiveSlew (held.phaseField .slew)).toNat :=
  ⟨rfl, rfl, fun c => by cases c <;> decide⟩

theorem witness_LongEnoughPhaseReachesItsTargetExactly :
    -- `time = 13` from its first tick, 13 ticks of 16 for a distance of 200
    (let s := { held with buf := space [] [200, 100, 50, 16, 13] };
      s.cmdReady = false ∧ 1 ≤ 13 ∧ s.pt.toNat + 13 ≤ (s.phaseField .time).toNat ∧
      ∀ c ∈ [Channel.red, .green, .blue],
        (s.phaseField c.field).toNat ≤ (s.cur.get c).toNat + 13 * (effectiveSlew (s.phaseField .slew)).toNat ∧
        (s.cur.get c).toNat ≤
          (s.phaseField c.field).toNat + 13 * (effectiveSlew (s.phaseField .slew)).toNat) := by decide

theorem witness_InactiveBufferIsInvisibleBeforeTheSwap :
    SameButInactive busy { busy with buf := space [8] [1, 2, 3, 4, 5, 6, 7, 8, 9, 10] } ∧ busy.cmdReady = false := by
  refine ⟨⟨rfl, fun a ha => ?_⟩, rfl⟩
  obtain ⟨k, i⟩ := a
  cases (show k = .one from ha)
  revert i
  decide

theorem witness_ResetLinesAreNeverDrivenHigh :
    (∃ t, exec .pwmTick resetting = .next t ∧ t.rstOe = true) ∧ resetting.rstLineData = 0b00#2 ∧
      (∃ t, exec .pwmTick busy = .next t ∧ t.rstOe = false) ∧ busy.rstLineData = 0b00#2 :=
  ⟨⟨_, rfl, rfl⟩, rfl, ⟨_, rfl, rfl⟩, rfl⟩

theorem witness_DebounceTickTriggersOnExactlyTheCombination :
    busy.rsState = .normal ∧ resetting.rsState = .resetting ∧
      (dbUpdate 0b1100#4 { State.reset with dbCt0 := 0b1100#4 }).dbState = 0b1100#4 := by decide

theorem witness_OnlyARestartLeavesResetting :
    (∃ t, exec (.dbTick 0b0000#4) resetting = .next t) ∧ resetting.rsState = .resetting ∧ resetting.rstOe = true ∧
      resetting.wdtArmed = true ∧ Instr.dbTick 0b0000#4 ≠ .por ∧ Instr.dbTick 0b0000#4 ≠ .wdtFire :=
  ⟨⟨_, rfl⟩, by decide⟩

/-- One debounce tick before the sequence starts, with that tick as the only event. -/
def atTheBrink : State := { State.reset with dbCt0 := 0b1100#4, events := [0x10C#12] }

theorem witness_OnlyTheButtonsEnterResetting :
    atTheBrink.rsState = .normal ∧ ∃ t, step atTheBrink = .next t ∧ t.rsState = .resetting :=
  ⟨rfl, _, rfl, by decide⟩

theorem witness_WatchdogRestartsWhenArmed : resetting.wdtArmed = true ∧ busy.wdtArmed = false := by decide

theorem witness_HeldCombinationTriggersAgainAfterTheRestart : resetting.wdtArmed = true := by decide

theorem witness_EveryStepKeepsTheInvariants :
    Inv (busy.withEvent 0x3C8#12) ∧ Inv resetting ∧ (∃ t, step (busy.withEvent 0x3C8#12) = .next t) ∧
      ∃ t, step resetting = .next t := by
  refine ⟨?_, ?_, ⟨_, rfl⟩, ⟨_, rfl⟩⟩
  all_goals constructor
  all_goals first
    | decide
    | (intro c; cases c <;> decide)

theorem witness_NothingWritesTheActiveBuffer :
    (∃ t, exec (.data 5#8) busy = .next t ∧ t.act = busy.act) ∧
      ∃ t, exec .animTick resetting = .next t ∧ t.act ≠ resetting.act :=
  ⟨⟨_, rfl, by decide⟩, ⟨_, rfl, by decide⟩⟩

theorem witness_FlagsChangeOnlyAsListed :
    -- `cmd_ready` set by the last payload byte, and by the reset sequence
    (∃ t, exec (.data 5#8) { busy with rxRem := 1#4 } = .next t ∧ busy.cmdReady = false ∧ t.cmdReady = true) ∧
    (∃ t, exec .resetEnter busy = .next t ∧ t.cmdReady = true ∧ busy.rstOe ≠ t.rstOe ∧ busy.wdtArmed ≠ t.wdtArmed) ∧
    -- `cmd_ready` cleared by the swap
    (∃ t, exec .animTick resetting = .next t ∧ resetting.cmdReady = true ∧ t.cmdReady = false) ∧
    -- an edge set by a tick, and cleared by a consume
    (∃ t, exec (.dbTick 0b0101#4) busy = .next t ∧ busy.pressEdge.getLsbD 0 = false ∧ t.pressEdge.getLsbD 0 = true) ∧
    (∃ t, exec (.consume 0b0100#4) busy = .next t ∧ busy.pressEdge.getLsbD 2 = true ∧
      t.pressEdge.getLsbD 2 = false) :=
  ⟨⟨_, rfl, by decide, by decide⟩, ⟨_, rfl, by decide, by decide, by decide⟩, ⟨_, rfl, by decide, by decide⟩,
    ⟨_, rfl, by decide, by decide⟩, ⟨_, rfl, by decide, by decide⟩⟩

theorem witness_CanonicalBuffersThatReadAlikeAreEqual :
    Memory.wf busy.buf ∧ Memory.wf [] ∧ ∀ a : Nat, Memory.read busy.buf a = Memory.read busy.buf a :=
  ⟨by decide, by decide, fun _ => rfl⟩

theorem witness_BufferWriteIsReadBackAndKeepsTheForm :
    Memory.wf busy.buf ∧ (⟨.one, 9⟩ : BufAddr) ≠ ⟨.zero, 9⟩ := by decide

end Sys2Proof.Tests
end

section
/-! SUPPORT. Decoding of an inbound byte, by parser state and class (30_encoding.md R62, R69, R71). -/

namespace Sys2Proof

open Machine

theorem decodeByte_of_payload {s : State} (h : s.rxRem ≠ 0#4) (b : Byte) : decodeByte s.parserState b = .data b := by
  rw [parserState_eq_payload.2 h]; rfl

theorem decodeByte_of_awaiting {s : State} (h : s.rxRem = 0#4) (b : Byte) :
    decodeByte s.parserState b = decodeHeader b := by
  rw [parserState_eq_awaiting.2 h]; rfl

/-- The classes other than `0x8`, each with its mnemonic: `IDLE`, and one `BAD` for each of the others (R69). -/
def plainClasses : List (Nibble × (Nibble → Instr)) :=
  [(0x0#4, .idle), (0x1#4, .bad1), (0x2#4, .bad2), (0x3#4, .bad3), (0x4#4, .bad4), (0x5#4, .bad5), (0x6#4, .bad6),
    (0x7#4, .bad7), (0x9#4, .bad9), (0xA#4, .badA), (0xB#4, .badB), (0xC#4, .badC), (0xD#4, .badD), (0xE#4, .badE),
    (0xF#4, .badF)]

/-- The mnemonics of class `0x8` in the order of the payload count `N` (R69). -/
def commandsByCount : List Instr :=
  [.cmd0, .cmd1, .cmd2, .cmd3, .cmd4, .cmd5, .cmd6, .cmd7, .cmd8, .cmd9, .cmd10, .cmd11, .cmd12, .cmd13, .cmd14, .cmd15]

theorem decodeHeader_of_plainClass {b : Byte} {c : Nibble × (Nibble → Instr)} (hc : c ∈ plainClasses)
    (h : highNibble b = c.1) : decodeHeader b = c.2 (lowNibble b) := by
  simp only [plainClasses, List.mem_cons, List.not_mem_nil, or_false] at hc
  unfold decodeHeader
  rw [h]
  rcases hc with rfl | rfl | rfl | rfl | rfl | rfl | rfl | rfl | rfl | rfl | rfl | rfl | rfl | rfl | rfl <;> rfl

theorem decodeHeader_of_commandClass {b : Byte} (h : highNibble b = 0x8#4) :
    decodeHeader b = decodeCommand (lowNibble b) := by
  unfold decodeHeader
  rw [h]
  rfl

theorem commandsByCount_getElem? : ∀ n : Nibble, commandsByCount[n.toNat]? = some (decodeCommand n) := by
  decide

/-- Settles O2: in payload the byte is data; awaiting a header, its class is one of the plain ones or `0x8`. -/
theorem byteClassIsChosenByStateAndHighNibble : Obligations.ByteClassIsChosenByStateAndHighNibble := by
  intro s b
  refine ⟨fun hpay => decodeByte_of_payload hpay b, fun hawait => ?_⟩
  rw [decodeByte_of_awaiting hawait]
  refine ⟨fun c hc hclass => decodeHeader_of_plainClass hc hclass, fun hclass => ?_⟩
  rw [decodeHeader_of_commandClass hclass]
  exact commandsByCount_getElem? (lowNibble b)

end Sys2Proof
end

section
/-! SUPPORT. The status byte that answers every inbound byte (30_encoding.md R64, R66; 41_command_receiver.md R102). -/

namespace Sys2Proof.Machine

/-- R66's two spellings of the status byte, `zext_8(db_state)` and `{0b0000, db_state}`. -/
theorem setWidth_eq_zero_append (x : Nibble) : x.setWidth 8 = 0x0#4 ++ x :=
  BitVec.setWidth_eq_append (by decide)

/-- The status load comes before the byte's own effect, which keeps it: R102 holds in both parser states. -/
@[simp] theorem receive_txData (b : Byte) (s : State) :
    (receive b (receiveHeader b) s).txData = 0x0#4 ++ s.dbState := by
  rw [← setWidth_eq_zero_append]
  unfold receive
  split <;> simp

@[simp] theorem receive_out (b : Byte) (s : State) :
    (receive b (receiveHeader b) s).out = { s.out with txLoad := true } := by
  unfold receive
  split <;> simp

/-- Settles O10: `RX_BYTE` is the reception of its byte, which loads the status byte and raises the strobe. -/
theorem everyByteIsAnsweredWithTheStatusByte : Obligations.EveryByteIsAnsweredWithTheStatusByte := by
  intro b s
  refine ⟨receive b (receiveHeader b) s, rfl, receive_txData b s, ?_, ?_, ?_⟩
  · rw [receive_txData, lowNibble_append]
  · rw [receive_txData, highNibble_append]
  · rw [receive_out]

end Sys2Proof.Machine
end

section
/-! SUPPORT. The press edges of a debounce tick (40_debounce.md R82). -/

namespace Sys2Proof.Machine

/-- R83: a debounce tick always answers, with the update, the reset check and the tick divider in this order. -/
theorem exec_dbTick (v : Btn) (s : State) :
    exec (.dbTick v) s = .next (tickDivide (resetCheck (dbUpdate v s))) := rfl

/-- R82 on one lane: only the update moves its edge, since the tick's other parts touch no debounce register. -/
theorem edge_lane_dbTick (v : Btn) (s : State) (i : Fin 4) :
    ((tickDivide (resetCheck (dbUpdate v s))).lane i).edge =
      ((s.lane i).edge || (!(s.lane i).state && ((tickDivide (resetCheck (dbUpdate v s))).lane i).state)) := by
  rw [lane_dbTick]
  exact Lane.update_edge (v.getLsbD i.val) (s.lane i)

/-- Settles O22: the edge equation of one lane, read on the bits of `press_edge` and `db_state`. -/
theorem pressEdgeIsSetByAPressOnly : Obligations.PressEdgeIsSetByAPressOnly := by
  intro v s
  exact ⟨_, exec_dbTick v s, edge_lane_dbTick v s⟩

end Sys2Proof.Machine
end

section
/-! SUPPORT. A byte received while a header is awaited (41_command_receiver.md R91, R94). -/

namespace Sys2Proof.Machine

/-- R102's status load, with the status byte spelled as R66's bit layout. -/
theorem loadStatus_eq (s : State) :
    loadStatus s = { s with txData := 0x0#4 ++ s.dbState, out := { s.out with txLoad := true } } := by
  rw [← setWidth_eq_zero_append]
  rfl

/-- R91: an awaited byte is the status load followed by the effect of its header. -/
theorem exec_byteClass_of_awaiting {i : Instr} {b : Byte} (hcode : encode i = .byte b) {s : State}
    (hawait : s.rxRem = 0#4) : exec i s = .next (receiveHeader b (loadStatus s)) := by
  rw [exec_byteClass hcode, receive_of_awaiting hawait]

/-- R94: every header of class `0x0` is an idle byte. -/
theorem receiveHeader_of_idleClass (n : Nibble) : receiveHeader (0x0#4 ++ n) = headerIdle := by
  rw [receiveHeader_append, if_neg (by decide), if_pos rfl]

/-- Settles O12: both spellings of the byte are its reception; awaited, this is the status load and then `HDR_IDLE`. -/
theorem idleByteOnlyLoadsTheStatus : Obligations.IdleByteOnlyLoadsTheStatus := by
  intro n s hawait
  constructor
  · rw [exec_byteClass (i := .idle n) rfl]
    rfl
  · rw [exec_byteClass_of_awaiting (i := .idle n) rfl hawait, receiveHeader_of_idleClass, loadStatus_eq]
    rfl

end Sys2Proof.Machine
end

section
/-! SUPPORT. The effective slew, the distance a ramp has to go, and the colour curve (42_animation.md R112 to R115). -/

namespace Sys2Proof.Machine

/-! ### The ramp -/

/-- How far a channel is from its target, on either side of it. -/
def distance (cur tgt : Byte) : Nat := max cur.toNat tgt.toNat - min cur.toNat tgt.toNat

theorem distance_eq_zero {cur tgt : Byte} : distance cur tgt = 0 ↔ cur = tgt := by
  rw [distance, ← BitVec.toNat_inj]
  omega

/-- No two bytes differ by more than 255 (R112). -/
theorem distance_le (cur tgt : Byte) : distance cur tgt ≤ 255 := by
  have hcur := cur.isLt
  have htgt := tgt.isLt
  unfold distance
  omega

/-- R113: a tick takes the effective slew off the distance, stopping at 0. -/
theorem distance_ramp (cur tgt es : Byte) : distance (ramp cur tgt es) tgt = distance cur tgt - es.toNat := by
  rw [distance, distance, ramp_toNat]
  split <;> omega

/-- R113: `n` ticks towards a fixed target take `n * es` off the distance, stopping at 0. -/
theorem distance_iterate_ramp (cur tgt es : Byte) (n : Nat) :
    distance (Nat.iterate (fun c => ramp c tgt es) n cur) tgt = distance cur tgt - n * es.toNat := by
  induction n generalizing cur with
  | zero => rw [Nat.iterate, Nat.zero_mul, Nat.sub_zero]
  | succ n ih => rw [Nat.iterate, ih, distance_ramp, Nat.sub_sub, Nat.succ_mul, Nat.add_comm]

theorem iterate_ramp_eq_target (cur tgt es : Byte) (n : Nat) :
    Nat.iterate (fun c => ramp c tgt es) n cur = tgt ↔ distance cur tgt ≤ n * es.toNat := by
  rw [← distance_eq_zero, distance_iterate_ramp, Nat.sub_eq_zero_iff_le]

theorem ramp_of_eq {cur tgt : Byte} (h : cur = tgt) (es : Byte) : ramp cur tgt es = cur := by
  subst h
  rw [← distance_eq_zero, distance_ramp, distance_eq_zero.2 rfl, Nat.zero_sub]

/-- R113: the ramp never leaves the range between the channel and its target. -/
theorem ramp_between (cur tgt es : Byte) :
    min cur.toNat tgt.toNat ≤ (ramp cur tgt es).toNat ∧ (ramp cur tgt es).toNat ≤ max cur.toNat tgt.toNat := by
  rw [ramp_toNat]
  split <;> omega

/-- Settles O31: the cases are those of the ramp's integer form; a target is reached when no distance is left. -/
theorem rampMovesTowardsTheTargetWithoutOvershoot : Obligations.RampMovesTowardsTheTargetWithoutOvershoot := by
  refine ⟨fun cur tgt es => ⟨fun hup => ?_, fun hdown => ?_, fun heq => ramp_of_eq heq es, ramp_between cur tgt es⟩,
    fun s c => ?_, fun cur tgt es n _ => iterate_ramp_eq_target cur tgt es n⟩
  · rw [ramp_toNat, if_pos hup]
  · rw [ramp_toNat, if_neg (Nat.lt_asymm hdown)]
  · rw [rampChannels_cur, Rgb.get_of]

/-- R112: a slew of 255 leaves no distance after one tick. -/
theorem ramp_unlimited (cur tgt : Byte) : ramp cur tgt 255#8 = tgt := by
  rw [← distance_eq_zero, distance_ramp]
  exact Nat.sub_eq_zero_of_le (distance_le cur tgt)

/-- Settles O30: the slew's equation is its definition, its range that of a nonzero byte. -/
theorem effectiveSlewOfZeroIsUnlimited : Obligations.EffectiveSlewOfZeroIsUnlimited :=
  ⟨fun _ => rfl, fun slew => ⟨effectiveSlew_pos slew, Nat.le_of_lt_succ (effectiveSlew slew).isLt⟩, ramp_unlimited⟩

/-! ### The colour curve -/

/-- Settles O32: the curve's integer form, read on each of its three segments. -/
theorem colourCurveHasThreeSegments : Obligations.ColourCurveHasThreeSegments := by
  intro v
  rw [lin_toNat]
  refine ⟨fun hlow => if_pos hlow, fun hge hlt => ?_, fun hhigh => ?_⟩
  · rw [if_neg (Nat.not_lt.2 hge), if_pos hlt]
  · rw [if_neg (by omega), if_neg (Nat.not_lt.2 hhigh)]

/-- R110: an animation tick always answers. -/
theorem exec_animTick (s : State) : exec .animTick s = .next (animTick s) := rfl

/-- Settles O34: the state an animation tick answers shows the curve's value of every channel. -/
theorem animationTickPublishesLinearDuty : Obligations.AnimationTickPublishesLinearDuty :=
  fun s => ⟨animTick s, exec_animTick s, animTick_duty s⟩

end Sys2Proof.Machine
end

section
/-! SUPPORT. Which operations answer with a next state (60_exceptions.md R151; 44_reset_sequencer.md R144). -/

namespace Sys2Proof.Machine

/-- R144: the watchdog's expiry restarts the block while armed, and is no event of the block otherwise (U5). -/
theorem exec_wdtFire (s : State) :
    exec .wdtFire s = if s.wdtArmed then .next (restart s) else .refused .watchdogNotArmed := rfl

theorem exec_wdtFire_answers_iff (s : State) : (∃ t, exec .wdtFire s = .next t) ↔ s.wdtArmed = true := by
  rw [exec_wdtFire]
  constructor
  · rintro ⟨t, ht⟩
    by_contra hunarmed
    rw [if_neg hunarmed] at ht
    cases ht
  · intro harmed
    exact ⟨restart s, if_pos harmed⟩

/-- R151: an event but the watchdog's is total by its own meaning, and a byte class by the reception it is (R91). -/
theorem exec_answers_of_ne_wdtFire {i : Instr} (h : i ≠ .wdtFire) (s : State) : ∃ t, exec i s = .next t := by
  cases i
  case por => exact ⟨restart s, rfl⟩
  case dbTick v => exact ⟨_, exec_dbTick v s⟩
  case pwmTick => exact ⟨_, rfl⟩
  case rxByte b => exact ⟨receive b (receiveHeader b) s, rfl⟩
  case consume m => exact ⟨_, rfl⟩
  case wdtFire => exact absurd rfl h
  case animTick => exact ⟨animTick s, exec_animTick s⟩
  case resetEnter => exact ⟨resetEnter s, rfl⟩
  all_goals exact ⟨_, exec_byteClass rfl s⟩

/-- Settles O8: the meanings of the operations answer, the watchdog's when armed; there is no reason for a fault. -/
theorem everyOperationIsTotal : Obligations.EveryOperationIsTotal :=
  ⟨fun _ s hi => exec_answers_of_ne_wdtFire hi s, exec_wdtFire_answers_iff, fun _ f => nomatch f⟩

end Sys2Proof.Machine
end

section
/-! SUPPORT. The decoder and the encoder are inverse to each other (30_encoding.md sections 1, 3, 5, 6). -/

namespace Sys2Proof

open Machine

/-! ### Where an instruction fits -/

theorem fits_of_parserState_none {i : Instr} (h : i.parserState = none) (p : ParserState) : i.fits p = true := by
  unfold Instr.fits
  rw [h]

theorem fits_iff_of_parserState_some {i : Instr} {q : ParserState} (h : i.parserState = some q) (p : ParserState) :
    i.fits p = true ↔ q = p := by
  unfold Instr.fits
  rw [h]
  exact decide_eq_true_iff

/-- R62, R69: what is encoded as a byte is a header, or the payload byte itself. -/
theorem parserState_of_encode_byte {i : Instr} {b : Byte} (h : encode i = .byte b) :
    i.parserState = some .awaitingHeader ∨ i = .data b := by
  cases i <;> cases h
  case data => exact .inr rfl
  all_goals exact .inl rfl

theorem parserState_of_encode_event {i : Instr} {w : EventWord} (h : encode i = .event w) : i.parserState = none := by
  cases i <;> cases h <;> rfl

/-! ### Headers -/

/-- R69: every class is one of the plain ones or the command class. -/
theorem class_cases : ∀ h : Nibble, h = 0x8#4 ∨ ∃ c ∈ plainClasses, h = c.1 := by decide

theorem encode_plainClass {c : Nibble × (Nibble → Instr)} (hc : c ∈ plainClasses) (n : Nibble) :
    encode (c.2 n) = .byte (c.1 ++ n) ∧ (c.2 n).parserState = some .awaitingHeader := by
  simp only [plainClasses, List.mem_cons, List.not_mem_nil, or_false] at hc
  rcases hc with rfl | rfl | rfl | rfl | rfl | rfl | rfl | rfl | rfl | rfl | rfl | rfl | rfl | rfl | rfl <;>
    exact ⟨rfl, rfl⟩

theorem encode_decodeCommand : ∀ n : Nibble,
    encode (decodeCommand n) = .byte (0x8#4 ++ n) ∧ (decodeCommand n).parserState = some .awaitingHeader := by
  decide

/-- R69: the mnemonic an awaited byte selects is a header, and its encoding is that byte. -/
theorem encode_decodeHeader (b : Byte) :
    encode (decodeHeader b) = .byte b ∧ (decodeHeader b).parserState = some .awaitingHeader := by
  rcases class_cases (highNibble b) with hclass | ⟨c, hc, hclass⟩
  · have hcmd := encode_decodeCommand (lowNibble b)
    rwa [← decodeHeader_of_commandClass hclass, ← hclass, append_nibbles] at hcmd
  · have hplain := encode_plainClass hc (lowNibble b)
    rwa [← decodeHeader_of_plainClass hc hclass, ← hclass, append_nibbles] at hplain

/-- R69: the byte of a header selects that header: its class and, for class `0x8`, its count are read back. -/
theorem decodeHeader_of_encode {i : Instr} {b : Byte} (hhead : i.parserState = some .awaitingHeader)
    (hcode : encode i = .byte b) : decodeHeader b = i := by
  cases i <;> cases hhead <;> cases hcode
  case cmd0 | cmd1 | cmd2 | cmd3 | cmd4 | cmd5 | cmd6 | cmd7 => rfl
  case cmd8 | cmd9 | cmd10 | cmd11 | cmd12 | cmd13 | cmd14 | cmd15 => rfl
  all_goals simp [decodeHeader]

/-! ### Inbound bytes -/

/-- R69: whatever byte comes in, its class is encoded as that byte. -/
theorem encode_decodeByte (p : ParserState) (b : Byte) : encode (decodeByte p b) = .byte b := by
  cases p
  case awaitingHeader => exact (encode_decodeHeader b).1
  case inPayload => rfl

theorem decodeByte_fits (p : ParserState) (b : Byte) : (decodeByte p b).fits p = true := by
  cases p
  case awaitingHeader => exact (fits_iff_of_parserState_some (encode_decodeHeader b).2 _).2 rfl
  case inPayload => rfl

theorem decodeByte_of_encode {p : ParserState} {i : Instr} {b : Byte} (hfits : i.fits p = true)
    (hcode : encode i = .byte b) : decodeByte p b = i := by
  rcases parserState_of_encode_byte hcode with hhead | rfl
  · obtain rfl := (fits_iff_of_parserState_some hhead p).1 hfits
    exact decodeHeader_of_encode hhead hcode
  · obtain rfl := (fits_iff_of_parserState_some (q := .inPayload) rfl p).1 hfits
    rfl

/-! ### Event words -/

theorem operandZero_eq_ok {w : EventWord} {i j : Instr} :
    operandZero w i = .ok j ↔ eventOperand w = 0x00#8 ∧ i = j := by
  unfold operandZero
  split <;> simp [*]

theorem operandZero_eq_error {w : EventWord} {i : Instr} :
    (∃ e, operandZero w i = .error e) ↔ eventOperand w ≠ 0x00#8 := by
  unfold operandZero
  split <;> simp [*]

theorem operandBtn_eq_ok {w : EventWord} {mk : Btn → Instr} {j : Instr} :
    operandBtn w mk = .ok j ↔
      highNibble (eventOperand w) = 0x0#4 ∧ mk (lowNibble (eventOperand w)) = j := by
  unfold operandBtn
  split <;> simp [*]

theorem operandBtn_eq_error {w : EventWord} {mk : Btn → Instr} :
    (∃ e, operandBtn w mk = .error e) ↔ highNibble (eventOperand w) ≠ 0x0#4 := by
  unfold operandBtn
  split <;> simp [*]

/-- R72: the kinds whose operand is stated as 0, each with its event. -/
def zeroKinds : List (Nibble × Instr) :=
  [(0x0#4, .por), (0x2#4, .pwmTick), (0x5#4, .wdtFire), (0x6#4, .animTick), (0x7#4, .resetEnter)]

/-- R72: the kinds whose operand is a `BTN` vector, each with its event. -/
def btnKinds : List (Nibble × (Btn → Instr)) := [(0x1#4, .dbTick), (0x4#4, .consume)]

theorem kind_cases : ∀ k : Nibble,
    (∃ c ∈ zeroKinds, k = c.1) ∨ (∃ c ∈ btnKinds, k = c.1) ∨ k = 0x3#4 ∨ 8 ≤ k.toNat := by
  decide

theorem decodeEvent_of_zeroKind {w : EventWord} {c : Nibble × Instr} (hc : c ∈ zeroKinds) (hkind : eventKind w = c.1) :
    decodeEvent w = operandZero w c.2 := by
  simp only [zeroKinds, List.mem_cons, List.not_mem_nil, or_false] at hc
  unfold decodeEvent
  rw [hkind]
  rcases hc with rfl | rfl | rfl | rfl | rfl <;> rfl

theorem decodeEvent_of_btnKind {w : EventWord} {c : Nibble × (Btn → Instr)} (hc : c ∈ btnKinds)
    (hkind : eventKind w = c.1) : decodeEvent w = operandBtn w c.2 := by
  simp only [btnKinds, List.mem_cons, List.not_mem_nil, or_false] at hc
  unfold decodeEvent
  rw [hkind]
  rcases hc with rfl | rfl <;> rfl

theorem decodeEvent_of_rxKind {w : EventWord} (hkind : eventKind w = 0x3#4) :
    decodeEvent w = .ok (.rxByte (eventOperand w)) := by
  unfold decodeEvent
  rw [hkind]
  rfl

theorem decodeEvent_of_unknownKind {w : EventWord} (h : 8 ≤ (eventKind w).toNat) :
    decodeEvent w = .error (.unknownKind (eventKind w)) := by
  unfold decodeEvent
  split
  case h_9 => rfl
  all_goals omega

theorem encode_zeroKind : ∀ c ∈ zeroKinds, encode c.2 = .event (c.1 ++ 0x00#8) := by decide

theorem encode_btnKind : ∀ c ∈ btnKinds, ∀ v : Btn, encode (c.2 v) = .event (c.1 ++ (0x0#4 ++ v)) := by decide

/-- R72: a word that spells an event is that event's encoding. -/
theorem encode_of_decodeEvent {w : EventWord} {i : Instr} (h : decodeEvent w = .ok i) : encode i = .event w := by
  rcases kind_cases (eventKind w) with ⟨c, hc, hk⟩ | ⟨c, hc, hk⟩ | hk | hk
  · rw [decodeEvent_of_zeroKind hc hk] at h
    obtain ⟨hzero, rfl⟩ := operandZero_eq_ok.1 h
    rw [encode_zeroKind c hc, ← hk, ← hzero, append_kind_operand]
  · rw [decodeEvent_of_btnKind hc hk] at h
    obtain ⟨hhigh, rfl⟩ := operandBtn_eq_ok.1 h
    rw [encode_btnKind c hc, ← hk, ← hhigh, append_nibbles, append_kind_operand]
  · rw [decodeEvent_of_rxKind hk] at h
    cases h
    rw [encode, ← hk, append_kind_operand]
  · rw [decodeEvent_of_unknownKind hk] at h
    cases h

/-- R72: the encoding of an event spells that event. -/
theorem decodeEvent_of_encode {i : Instr} {w : EventWord} (h : encode i = .event w) : decodeEvent w = .ok i := by
  cases i <;> cases h
  case dbTick v => simp [decodeEvent, operandBtn]
  case consume m => simp [decodeEvent, operandBtn]
  case rxByte b => simp [decodeEvent]
  all_goals rfl

theorem zeroKind_refusals : ∀ c ∈ zeroKinds,
    ¬ 8 ≤ c.1.toNat ∧ c.1 ∈ [0x0#4, 0x2#4, 0x5#4, 0x6#4, 0x7#4] ∧ c.1 ∉ [0x1#4, 0x4#4] := by decide

theorem btnKind_refusals : ∀ c ∈ btnKinds,
    ¬ 8 ≤ c.1.toNat ∧ c.1 ∉ [0x0#4, 0x2#4, 0x5#4, 0x6#4, 0x7#4] ∧ c.1 ∈ [0x1#4, 0x4#4] := by decide

/-- Settles O3: each kind is refused as its operand's form is, and the kinds from 8 on always. -/
theorem eventWordsAreRefusedExactlyWhenIllFormed : Obligations.EventWordsAreRefusedExactlyWhenIllFormed := by
  intro w
  rcases kind_cases (eventKind w) with ⟨c, hc, hk⟩ | ⟨c, hc, hk⟩ | hk | hk
  · rw [decodeEvent_of_zeroKind hc hk, operandZero_eq_error, hk]
    simp only [zeroKind_refusals c hc, true_and, false_and, false_or, or_false]
  · rw [decodeEvent_of_btnKind hc hk, operandBtn_eq_error, hk]
    simp only [btnKind_refusals c hc, true_and, false_and, false_or]
  · rw [decodeEvent_of_rxKind hk, hk]
    simp
  · exact ⟨fun _ => .inl hk, fun _ => ⟨_, decodeEvent_of_unknownKind hk⟩⟩

/-! ### Both -/

/-- Settles O4: a byte class is read back from its byte in its parser state, an event from its word in both. -/
theorem encodeThenDecodeGivesTheInstruction : Obligations.EncodeThenDecodeGivesTheInstruction := by
  intro p i hfits
  cases hcode : encode i with
  | byte b => exact congrArg Except.ok (decodeByte_of_encode hfits hcode)
  | event w => exact decodeEvent_of_encode hcode

/-- Settles O5: a byte's class is encoded as that byte and fits the parser state, and so with event words. -/
theorem decodeThenEncodeGivesTheWord : Obligations.DecodeThenEncodeGivesTheWord := by
  intro p c i hdec
  cases c with
  | byte b =>
    cases hdec
    exact ⟨encode_decodeByte p b, decodeByte_fits p b⟩
  | event w =>
    have hcode := encode_of_decodeEvent hdec
    exact ⟨hcode, fits_of_parserState_none (parserState_of_encode_event hcode) p⟩

/-- Settles O1: each word is the encoding of the instruction it stands for, so O4 decodes it. -/
theorem writtenOutWordsDecode : Obligations.WrittenOutWordsDecode :=
  ⟨encodeThenDecodeGivesTheInstruction _ (.idle 5#4) rfl, encodeThenDecodeGivesTheInstruction _ .cmd0 rfl,
    encodeThenDecodeGivesTheInstruction _ .cmd10 rfl, encodeThenDecodeGivesTheInstruction _ (.bad9 5#4) rfl,
    encodeThenDecodeGivesTheInstruction _ (.data 0x8A#8) rfl,
    encodeThenDecodeGivesTheInstruction _ (.dbTick 0xC#4) rfl,
    encodeThenDecodeGivesTheInstruction _ (.rxByte 0x8A#8) rfl,
    encodeThenDecodeGivesTheInstruction _ (.consume 0xE#4) rfl,
    encodeThenDecodeGivesTheInstruction _ .wdtFire rfl⟩

end Sys2Proof
end

section
/-! SUPPORT. The command-buffer space in canonical form (20_memory.md R40, R44, R46; log entry 10). -/

namespace Sys2Proof.Machine

theorem Memory.read_cons_same (c : Host.Cell) (m : Memory) : Memory.read (c :: m) c.1 = c.2 := if_pos rfl

theorem Memory.read_cons_of_ne {c : Host.Cell} {a : Nat} (h : c.1 ≠ a) (m : Memory) :
    Memory.read (c :: m) a = Memory.read m a := if_neg h

theorem Memory.read_of_absent {m : Memory} {a : Nat} (h : ∀ d ∈ m, d.1 ≠ a) : m.read a = Memory.unlisted := by
  induction m with
  | nil => rfl
  | cons d m ih =>
    rw [Memory.read_cons_of_ne (h d (by simp)), ih fun e he => h e (by simp [he])]

/-- What `wf` says of a space with a first cell. -/
theorem Memory.wf_cons {c : Host.Cell} {m : Memory} (h : Memory.wf (c :: m)) :
    (∀ d ∈ m, c.1 < d.1) ∧ c.2 ≠ Memory.unlisted ∧ Memory.wf m := by
  obtain ⟨hsorted, hcells⟩ := h
  obtain ⟨hfirst, hrest⟩ := List.pairwise_cons.1 hsorted
  exact ⟨hfirst, (hcells c (by simp)).2, hrest, fun d hd => hcells d (by simp [hd])⟩

/-- In canonical form no cell lies before the first one. -/
theorem Memory.read_of_lt_first {c : Host.Cell} {m : Memory} (h : Memory.wf (c :: m)) {a : Nat} (ha : a < c.1) :
    Memory.read (c :: m) a = Memory.unlisted := by
  refine Memory.read_of_absent fun d hd => ?_
  rcases List.mem_cons.1 hd with rfl | hd
  · omega
  · have := (Memory.wf_cons h).1 d hd
    omega

/-- Two spaces that read alike have their first cell at the same address, and so in common. -/
theorem Memory.first_cell_eq {c d : Host.Cell} {m n : Memory} (hm : Memory.wf (c :: m)) (hn : Memory.wf (d :: n))
    (h : ∀ a, Memory.read (c :: m) a = Memory.read (d :: n) a) : c = d := by
  have hc := h c.1
  have hd := h d.1
  rw [Memory.read_cons_same] at hc hd
  obtain ⟨_, hcell, _⟩ := Memory.wf_cons hm
  obtain ⟨_, hcell', _⟩ := Memory.wf_cons hn
  rcases Nat.lt_trichotomy c.1 d.1 with hlt | heq | hgt
  · exact absurd (hc.trans (Memory.read_of_lt_first hn hlt)) hcell
  · rw [heq, Memory.read_cons_same] at hc
    exact Prod.ext heq hc
  · exact absurd (hd.symm.trans (Memory.read_of_lt_first hm hgt)) hcell'

/-- Behind a common first cell, two spaces that read alike still do. -/
theorem Memory.read_tail_eq {c : Host.Cell} {m n : Memory} (hm : Memory.wf (c :: m)) (hn : Memory.wf (c :: n))
    (h : ∀ a, Memory.read (c :: m) a = Memory.read (c :: n) a) (a : Nat) : m.read a = n.read a := by
  by_cases ha : c.1 = a
  · subst ha
    rw [Memory.read_of_absent fun d hd => Nat.ne_of_gt ((Memory.wf_cons hm).1 d hd),
      Memory.read_of_absent fun d hd => Nat.ne_of_gt ((Memory.wf_cons hn).1 d hd)]
  · rw [← Memory.read_cons_of_ne ha, h, Memory.read_cons_of_ne ha]

/-- A canonical space that reads as the empty one is empty: a cell would be seen. -/
theorem Memory.eq_nil_of_read {m : Memory} (hm : Memory.wf m) (h : ∀ a, m.read a = Memory.unlisted) : m = [] := by
  cases m with
  | nil => rfl
  | cons c m =>
    obtain ⟨_, hcell, _⟩ := Memory.wf_cons hm
    exact absurd ((Memory.read_cons_same c m).symm.trans (h c.1)) hcell

/-- Settles O55: by induction on the cells, the two lists have their first cell in common. -/
theorem canonicalBuffersThatReadAlikeAreEqual : Obligations.CanonicalBuffersThatReadAlikeAreEqual := by
  intro m
  induction m with
  | nil => exact fun n _ hn h => (Memory.eq_nil_of_read hn fun a => (h a).symm).symm
  | cons c m ih =>
    intro n hm hn h
    cases n with
    | nil => exact Memory.eq_nil_of_read hm h
    | cons d n =>
      obtain rfl := Memory.first_cell_eq hm hn h
      obtain ⟨_, _, hm'⟩ := Memory.wf_cons hm
      obtain ⟨_, _, hn'⟩ := Memory.wf_cons hn
      rw [ih n hm' hn' (Memory.read_tail_eq hm hn h)]

/-- Settles O56: read after write at the same address and at another one, and the canonical form. -/
theorem bufferWriteIsReadBackAndKeepsTheForm : Obligations.BufferWriteIsReadBackAndKeepsTheForm := by
  intro s a v
  refine ⟨?_, fun c hc => ?_, fun hwf => State.wf_writeBuf hwf a v⟩
  · rw [State.readBuf_writeBuf, if_pos rfl]
  · rw [State.readBuf_writeBuf, if_neg hc]

end Sys2Proof.Machine
end

section
/-! SUPPORT. Delivery of events: what one step does with the next event word (00_scope.md R5; 30_encoding.md R72; log
entries 1, 2, 6). -/

namespace Sys2Proof.Machine

theorem step_of_no_event {s : State} (h : s.events = []) : step s = .next { s with out := Outputs.quiet } := by
  unfold step deliver
  rw [h]

theorem step_of_external {s : State} {w : EventWord} {rest : List EventWord} {i : Instr} (hev : s.events = w :: rest)
    (hdec : decodeEvent w = .ok i) (hext : i.isExternal = true) :
    step s = exec i { s with events := rest, out := Outputs.quiet } := by
  unfold step deliver
  simp only [hev, hdec, hext, if_true]

theorem step_of_annotation {s : State} {w : EventWord} {rest : List EventWord} {i : Instr} (hev : s.events = w :: rest)
    (hdec : decodeEvent w = .ok i) (hint : i.isExternal = false) :
    step s = .next { s with events := rest, out := Outputs.quiet } := by
  unfold step deliver
  simp [hev, hdec, hint]

theorem step_of_illFormed {s : State} {w : EventWord} {rest : List EventWord} {e : DecodeError}
    (hev : s.events = w :: rest) (hdec : decodeEvent w = .error e) : step s = .refused (.illFormedEvent e) := by
  unfold step deliver
  simp only [hev, hdec]

/-- Settles O6: delivery takes the word off, and the operation it spells is performed. -/
theorem stepPerformsTheDecodedEvent : Obligations.StepPerformsTheDecodedEvent :=
  fun _ _ _ _ hev hdec hext => step_of_external hev hdec hext

/-- R72: the two annotations spell the internal operations, which no strobe starts. -/
theorem annotation_decodes : ∀ c ∈ [(0x600#12, Instr.animTick), (0x700#12, Instr.resetEnter)],
    encode c.2 = .event c.1 ∧ c.2.isExternal = false := by decide

/-- Settles O7: delivery without an event, of an annotation, and of a word that spells no event. -/
theorem stepIdlesOrRefusesIllFormedWords : Obligations.StepIdlesOrRefusesIllFormedWords := by
  refine ⟨fun s hev => step_of_no_event hev, fun s rest c hc => ?_, fun s w rest e hev hdec => step_of_illFormed hev hdec⟩
  obtain ⟨hcode, hint⟩ := annotation_decodes c hc
  have hdec := decodeEvent_of_encode hcode
  exact ⟨hdec, fun hev => step_of_annotation hev hdec hint⟩

end Sys2Proof.Machine
end

section
/-! SUPPORT. Received bytes: headers, payload bytes and whole commands (41_command_receiver.md R91 to R101;
70_reset_and_hazards.md R175). -/

namespace Sys2Proof.Machine

/-! ### Byte classes -/

theorem exec_rxByte (b : Byte) (s : State) : exec (.rxByte b) s = .next (receive b (receiveHeader b) s) := rfl

/-- Settles O9: the class decode selects is encoded as the byte, and a class is the reception of its byte. -/
theorem receivedByteIsPerformedAsItsClass : Obligations.ReceivedByteIsPerformedAsItsClass := by
  intro b s
  rw [exec_byteClass (encode_decodeByte s.parserState b), exec_rxByte]

/-- Settles O14: in every state a byte class is the reception of its byte, and so is `DATA`. -/
theorem everyByteInPayloadIsData : Obligations.EveryByteInPayloadIsData := by
  refine fun b s => ⟨rfl, fun _ i hcode => ?_⟩
  rw [exec_byteClass hcode, exec_byteClass (i := .data b) rfl]

/-- R92, R93: an awaited command header sets the parser registers from its count, after the status load. -/
theorem exec_commandHeader {i : Instr} {n : Nibble} (hcode : encode i = .byte (0x8#4 ++ n)) {s : State}
    (hawait : s.rxRem = 0#4) :
    exec i s = .next { s with
      txData := 0x0#4 ++ s.dbState, out := { s.out with txLoad := true }, rxIdx := 0#4, rxRem := n } := by
  rw [exec_byteClass_of_awaiting hcode hawait, receiveHeader_append, if_pos rfl, loadStatus_eq]
  rfl

/-- R95: an awaited header of no known class resets the parser registers, after the status load. -/
theorem exec_badHeader {i : Instr} {h n : Nibble} (hcode : encode i = .byte (h ++ n)) (hcmd : h ≠ 0x8#4)
    (hidle : h ≠ 0x0#4) {s : State} (hawait : s.rxRem = 0#4) :
    exec i s = .next { s with
      txData := 0x0#4 ++ s.dbState, out := { s.out with txLoad := true }, rxIdx := 0#4, rxRem := 0#4 } := by
  rw [exec_byteClass_of_awaiting hcode hawait, receiveHeader_append, if_neg hcmd, if_neg hidle, loadStatus_eq]
  rfl

/-- Settles O11: the encoding of each of the fifteen headers holds its count. -/
theorem commandHeaderStartsItsPayload : Obligations.CommandHeaderStartsItsPayload := by
  intro s hawait c hc
  have hcode : encode c.1 = .byte (0x8#4 ++ c.2) := by
    revert c
    decide
  exact exec_commandHeader hcode hawait

/-- Settles O13: `CMD0` is the command header of count 0, the others are headers of no known class. -/
theorem emptyAndBadHeadersOnlyLoadTheStatus : Obligations.EmptyAndBadHeadersOnlyLoadTheStatus := by
  intro n s hawait i hi
  simp only [List.mem_cons, List.not_mem_nil, or_false] at hi
  rcases hi with rfl | hbad
  · exact exec_commandHeader (n := 0#4) rfl hawait
  · obtain ⟨h, hcode, hcmd, hidle⟩ : ∃ h : Nibble, encode i = .byte (h ++ n) ∧ h ≠ 0x8#4 ∧ h ≠ 0x0#4 := by
      rcases hbad with rfl | rfl | rfl | rfl | rfl | rfl | rfl | rfl | rfl | rfl | rfl | rfl | rfl | rfl <;>
        exact ⟨_, rfl, by decide, by decide⟩
    exact exec_badHeader hcode hcmd hidle hawait

/-! ### One payload byte -/

/-- R96, R98: the store of a payload byte moves the buffer only. -/
theorem storePayload_eq (b : Byte) (s : State) : storePayload b s = { s with buf := (storePayload b s).buf } := by
  unfold storePayload
  split <;> rfl

/-- R96, R98: the store is at `(1 - act, rx_idx)` while `rx_idx < 10`, nowhere beyond. -/
theorem storePayload_buf (b : Byte) (s : State) :
    (storePayload b s).buf =
      if s.rxIdx.toNat < 10 then s.buf.write (s.act.other.base + s.rxIdx.toNat) b else s.buf := by
  unfold storePayload State.payloadAddr
  by_cases hidx : s.rxIdx.toNat < 10
  · rw [dif_pos hidx, if_pos hidx]
    rfl
  · rw [dif_neg hidx, if_neg hidx]

/-- R97: the last payload byte raises the flag and sets both counters back. -/
theorem receivePayload_of_last {s : State} (hlast : s.rxRem = 1#4) (b : Byte) :
    receivePayload b s =
      { s with buf := (storePayload b s).buf, rxRem := 0#4, rxIdx := 0#4, cmdReady := true } := by
  unfold receivePayload
  rw [storePayload_eq, if_pos (by rw [hlast]; rfl)]
  rfl

/-- R96: any other payload byte moves both counters by one. -/
theorem receivePayload_of_more {s : State} (hmore : s.rxRem ≠ 1#4) (hidx : s.rxIdx.toNat + 1 < 16) (b : Byte) :
    receivePayload b s =
      { s with buf := (storePayload b s).buf, rxRem := s.rxRem - 1#4, rxIdx := s.rxIdx + 1#4 } := by
  have hrem : s.rxRem - 1#4 ≠ 0#4 := fun h => hmore (by bv_omega)
  unfold receivePayload advanceIndex
  rw [storePayload_eq, if_neg hrem, if_pos (by exact hidx)]

theorem exec_data_of_payload {s : State} (hpay : s.rxRem ≠ 0#4) (b : Byte) :
    exec (.data b) s = .next (receivePayload b (loadStatus s)) := by
  rw [exec_byteClass (i := .data b) rfl, receive_of_payload hpay]

/-- R96, R97: what a payload byte does to the counters and the flag, where the index can be counted on; besides those and
the buffer it changes nothing. -/
theorem receivePayload_counts {s : State} (hpay : s.rxRem ≠ 0#4) (hidx : s.rxIdx.toNat + 1 < 16) (b : Byte) :
    (receivePayload b s).rxRem.toNat = s.rxRem.toNat - 1 ∧
    (s.rxRem = 1#4 → (receivePayload b s).cmdReady = true ∧ (receivePayload b s).rxIdx = 0#4) ∧
    (s.rxRem ≠ 1#4 → (receivePayload b s).cmdReady = s.cmdReady ∧
      (receivePayload b s).rxIdx.toNat = s.rxIdx.toNat + 1) ∧
    receivePayload b s = { s with
      buf := (receivePayload b s).buf, rxRem := (receivePayload b s).rxRem, rxIdx := (receivePayload b s).rxIdx,
      cmdReady := (receivePayload b s).cmdReady } := by
  have hrem : (s.rxRem - 1#4).toNat = s.rxRem.toNat - 1 := by bv_omega
  by_cases hlast : s.rxRem = 1#4
  · rw [receivePayload_of_last hlast]
    exact ⟨by rw [hlast]; rfl, fun _ => ⟨rfl, rfl⟩, fun h => absurd hlast h, rfl⟩
  · rw [receivePayload_of_more hlast hidx]
    exact ⟨hrem, fun h => absurd h hlast, fun _ => ⟨rfl, by simp; omega⟩, rfl⟩

/-- Settles O15: the byte is stored at the payload address, and the counters move after the status load. -/
theorem payloadByteIsStoredAndCounted : Obligations.PayloadByteIsStoredAndCounted := by
  intro b s a hpay haddr
  obtain ⟨hslot, hindex⟩ := payloadAddr_eq_some.1 haddr
  have hidx : s.rxIdx.toNat + 1 < 16 := by
    have := a.index.isLt
    omega
  obtain ⟨hrem, hlast, hmore, hframe⟩ := receivePayload_counts (s := loadStatus s) hpay hidx b
  refine ⟨_, exec_data_of_payload hpay b, hslot, hindex, ?_, fun c hc => ?_, hrem, hlast, hmore, ?_⟩
  · rw [readBuf_receivePayload]
    exact if_pos haddr
  · refine read_receivePayload b (loadStatus s) fun a' ha' => ?_
    obtain rfl : a = a' := Option.some.inj (haddr.symm.trans ha')
    exact hc
  · rw [loadStatus_eq] at hframe ⊢
    exact hframe

/-- Settles O16: beyond index 9 there is no address to store at, and the byte is only counted. -/
theorem payloadByteBeyondTheBufferIsOnlyCounted : Obligations.PayloadByteBeyondTheBufferIsOnlyCounted := by
  intro b s hpay hbeyond hsum
  have haddr : s.payloadAddr = none := payloadAddr_eq_none.2 hbeyond
  have hidx : s.rxIdx.toNat + 1 < 16 := by bv_omega
  obtain ⟨hrem, hlast, hmore, hframe⟩ := receivePayload_counts (s := loadStatus s) hpay hidx b
  have hbuf : (receivePayload b (loadStatus s)).buf = s.buf := buf_receivePayload_of_none (s := loadStatus s) haddr b
  refine ⟨_, exec_data_of_payload hpay b, haddr, hrem, hlast, hmore, ?_⟩
  rw [hbuf] at hframe
  rw [loadStatus_eq] at hframe ⊢
  exact hframe

/-! ### What a received byte never does -/

/-- R101: a received byte stores to the inactive buffer only, if at all. -/
theorem readBuf_receive_active (b : Byte) (s : State) (k : Fin 10) :
    (receive b (receiveHeader b) s).readBuf ⟨s.act, k⟩ = s.readBuf ⟨s.act, k⟩ := by
  by_cases hawait : s.rxRem = 0#4
  · rw [receive_of_awaiting hawait]
    unfold State.readBuf
    rw [receiveHeader_buf, loadStatus_buf]
  · rw [receive_of_payload hawait]
    exact readBuf_receivePayload_active b (loadStatus s) k

/-- R101: the registers a received byte may change. -/
theorem receive_eq_update (b : Byte) (s : State) :
    receive b (receiveHeader b) s = { s with
      buf := (receive b (receiveHeader b) s).buf, rxRem := (receive b (receiveHeader b) s).rxRem,
      rxIdx := (receive b (receiveHeader b) s).rxIdx, cmdReady := (receive b (receiveHeader b) s).cmdReady,
      txData := (receive b (receiveHeader b) s).txData, out := (receive b (receiveHeader b) s).out,
      freeCount := (receive b (receiveHeader b) s).freeCount } := by
  apply State.ext <;> simp only [receive_dbState, receive_dbCt0, receive_dbCt1, receive_pressEdge, receive_tickCnt,
    receive_act, receive_phase, receive_pt, receive_cur, receive_duty, receive_pwmIndex, receive_portData,
    receive_rsState, receive_rstOe, receive_wdtArmed, receive_events]

/-- Settles O17: the active buffer is not stored to, the flag is not cleared, and no other register changes. -/
theorem receivedBytesLeaveTheRestAlone : Obligations.ReceivedBytesLeaveTheRestAlone := by
  refine fun b s => ⟨_, exec_rxByte b s, readBuf_receive_active b s, fun hready => ?_, receive_eq_update b s⟩
  rw [cmdReady_receive, hready, Bool.true_or]

/-! ### Zero bytes -/

/-- R94: the zero byte is an idle header while a header is awaited. -/
theorem receiveHeader_zero : receiveHeader 0x00#8 = headerIdle := receiveHeader_of_idleClass 0#4

/-- R175: a zero byte brings the parser nearer to awaiting a header, or leaves it there. -/
theorem rxRem_receive_zero (s : State) :
    (receive 0x00#8 (receiveHeader 0x00#8) s).rxRem.toNat = s.rxRem.toNat - 1 := by
  by_cases hawait : s.rxRem = 0#4
  · rw [receive_of_awaiting hawait, receiveHeader_zero, headerIdle_rxRem, hawait]
    rfl
  · rw [receive_of_payload hawait, receivePayload_rxRem, loadStatus_rxRem]
    bv_omega

/-- Settles O20: by induction on the zero bytes, each of which takes one off the bytes still expected. -/
theorem zeroBytesBringTheParserBack : Obligations.ZeroBytesBringTheParserBack := by
  intro s n hn
  induction n generalizing s with
  | zero => exact ⟨s, rfl, BitVec.eq_of_toNat_eq (Nat.le_zero.1 hn)⟩
  | succ n ih =>
    have hstep := rxRem_receive_zero s
    obtain ⟨t, hrun, hback⟩ := ih _ (by rw [hstep]; omega)
    exact ⟨t, by rw [List.replicate_succ, execAll_cons (exec_rxByte 0x00#8 s), hrun], hback⟩

end Sys2Proof.Machine
end

section
/-! SUPPORT. Whole commands: a header and its payload, received with no other operation between them (41_command_receiver.md
R92, R96 to R100). -/

namespace Sys2Proof.Machine

theorem Memory.writeBytes_concat (m : Memory) (a : Nat) (bs : List Byte) (b : Byte) :
    m.writeBytes a (bs ++ [b]) = (m.writeBytes a bs).write (a + bs.length) b := by
  induction bs generalizing m a with
  | nil => rfl
  | cons c bs ih =>
    rw [List.cons_append, Memory.writeBytes, ih, Memory.writeBytes, List.length_cons]
    congr 1
    omega

/-- The state a header leaves: the status is loaded, and a payload of `n` bytes is expected (R92). -/
def State.afterHeader (s : State) (n : Nat) : State :=
  { s with
    txData := 0x0#4 ++ s.dbState, out := { s.out with txLoad := true }, rxIdx := 0#4, rxRem := BitVec.ofNat 4 n }

/-- A state `s` at the start of a payload, after the bytes `bs` of it: the first ten of them are stored, and all are
counted (R96, R98). -/
def State.afterPayload (s : State) (bs : List Byte) : State :=
  { s with
    buf := s.buf.writeBytes s.act.other.base (bs.take 10)
    rxRem := s.rxRem - BitVec.ofNat 4 bs.length, rxIdx := BitVec.ofNat 4 bs.length }

theorem exec_header {s : State} (hawait : s.rxRem = 0#4) (n : Nat) :
    exec (.rxByte (0x8#4 ++ BitVec.ofNat 4 n)) s = .next (s.afterHeader n) := by
  rw [exec_rxByte, receive_of_awaiting hawait, receiveHeader_append, if_pos rfl, loadStatus_eq]
  rfl

/-- A further status load shows the same byte: nothing between the bytes of a command moves the debounced buttons. -/
theorem loadStatus_afterPayload_afterHeader (s : State) (n : Nat) (bs : List Byte) :
    loadStatus ((s.afterHeader n).afterPayload bs) = (s.afterHeader n).afterPayload bs := by
  rw [loadStatus_eq]
  rfl

/-- R96, R98: the next byte of a payload is the next of the first ten stored, or is stored nowhere. -/
theorem storePayload_afterPayload_buf (s : State) {bs : List Byte} (hlen : bs.length < 16) (b : Byte) :
    (storePayload b (s.afterPayload bs)).buf = s.buf.writeBytes s.act.other.base ((bs ++ [b]).take 10) := by
  have hidx : (s.afterPayload bs).rxIdx.toNat = bs.length := by
    show (BitVec.ofNat 4 bs.length).toNat = _
    rw [BitVec.toNat_ofNat, Nat.mod_eq_of_lt hlen]
  rw [storePayload_buf, hidx]
  by_cases hstored : bs.length < 10
  · rw [if_pos hstored, List.take_of_length_le (by simp; omega), Memory.writeBytes_concat]
    simp only [State.afterPayload, List.take_of_length_le (Nat.le_of_lt hstored)]
  · rw [if_neg hstored, List.take_append_of_le_length (Nat.not_lt.1 hstored)]
    rfl

theorem afterPayload_rxRem_toNat (s : State) {n : Nat} (hn : n ≤ 15) {bs : List Byte} (hlen : bs.length ≤ n) :
    ((s.afterHeader n).afterPayload bs).rxRem.toNat = n - bs.length := by
  show (BitVec.ofNat 4 n - BitVec.ofNat 4 bs.length).toNat = n - bs.length
  have hle : BitVec.ofNat 4 bs.length ≤ BitVec.ofNat 4 n := by
    rw [BitVec.le_def, BitVec.toNat_ofNat, BitVec.toNat_ofNat]
    omega
  rw [BitVec.toNat_sub_of_le hle, BitVec.toNat_ofNat, BitVec.toNat_ofNat]
  omega

theorem afterPayload_rxIdx_toNat (s : State) {bs : List Byte} (hlen : bs.length < 16) :
    (s.afterPayload bs).rxIdx.toNat = bs.length := by
  show (BitVec.ofNat 4 bs.length).toNat = _
  rw [BitVec.toNat_ofNat, Nat.mod_eq_of_lt hlen]

/-- One more byte of a payload is the reception of that byte as data. -/
theorem exec_rxByte_afterPayload (s : State) {n : Nat} (hn : n ≤ 15) {bs : List Byte} (hlen : bs.length < n) (b : Byte) :
    exec (.rxByte b) ((s.afterHeader n).afterPayload bs) =
      .next (receivePayload b ((s.afterHeader n).afterPayload bs)) := by
  have hrem := afterPayload_rxRem_toNat s hn (Nat.le_of_lt hlen)
  have hpay : ((s.afterHeader n).afterPayload bs).rxRem ≠ 0#4 := by
    intro h
    rw [h, BitVec.toNat_zero] at hrem
    omega
  rw [exec_rxByte, receive_of_payload hpay, loadStatus_afterPayload_afterHeader]

/-- R96: the bytes of a payload but the last, by induction on them from the back. -/
theorem execAll_payload (s : State) {n : Nat} (hn : n ≤ 15) (bs : List Byte) (hlen : bs.length < n) :
    execAll (bs.map Instr.rxByte) (s.afterHeader n) = .next ((s.afterHeader n).afterPayload bs) := by
  induction bs using List.reverseRecOn with
  | nil => simp [State.afterPayload, State.afterHeader, Memory.writeBytes]
  | append_singleton bs b ih =>
    rw [List.length_append, List.length_singleton] at hlen
    have hrem := afterPayload_rxRem_toNat s hn (bs := bs) (by omega)
    have hidx := afterPayload_rxIdx_toNat (s.afterHeader n) (bs := bs) (by omega)
    have hmore : ((s.afterHeader n).afterPayload bs).rxRem ≠ 1#4 := by
      intro h
      rw [h] at hrem
      change 1 = _ at hrem
      omega
    rw [List.map_append, execAll_append (ih (by omega)), List.map_singleton,
      execAll_cons (exec_rxByte_afterPayload s hn (by omega) b), execAll_nil, receivePayload_of_more hmore (by omega),
      storePayload_afterPayload_buf _ (by omega)]
    simp only [State.afterPayload, List.length_append, List.length_singleton, BitVec.ofNat_add, BitVec.sub_sub]

/-- Settles O19: the state after part of a payload has the flag of the state before the header. -/
theorem unfinishedCommandRaisesNoFlag : Obligations.UnfinishedCommandRaisesNoFlag := by
  intro s n payload hawait hn hlen
  refine ⟨_, (execAll_cons (exec_header hawait n)).trans (execAll_payload s hn payload hlen), rfl, rfl,
    afterPayload_rxRem_toNat s hn (Nat.le_of_lt hlen), afterPayload_rxIdx_toNat _ (by omega)⟩

/-- R92, R96 to R98: the state after a whole command, whose last byte completes it. -/
theorem execAll_command {s : State} (hawait : s.rxRem = 0#4) {payload : List Byte} (hpos : 1 ≤ payload.length)
    (hlen : payload.length ≤ 15) :
    execAll (.rxByte (0x8#4 ++ BitVec.ofNat 4 payload.length) :: payload.map Instr.rxByte) s = .next { s with
      buf := s.buf.writeBytes s.act.other.base (payload.take 10), rxRem := 0#4, rxIdx := 0#4, cmdReady := true
      txData := 0x0#4 ++ s.dbState, out := { s.out with txLoad := true } } := by
  rcases List.eq_nil_or_concat payload with rfl | ⟨bs, b, rfl⟩
  · simp at hpos
  · have hcount : (bs.concat b).length = bs.length + 1 := List.length_concat
    have hrem := afterPayload_rxRem_toNat s hlen (bs := bs) (by omega)
    have hlast : ((s.afterHeader (bs.concat b).length).afterPayload bs).rxRem = 1#4 :=
      BitVec.eq_of_toNat_eq (by rw [hrem, hcount, Nat.add_sub_cancel_left]; rfl)
    rw [execAll_cons (exec_header hawait _), List.concat_eq_append, List.map_append, ← List.concat_eq_append,
      execAll_append (execAll_payload s hlen bs (by omega)), List.map_singleton,
      execAll_cons (exec_rxByte_afterPayload s hlen (by omega) b), execAll_nil, receivePayload_of_last hlast,
      storePayload_afterPayload_buf _ (by omega), List.concat_eq_append]
    rfl

/-- A byte after the first bytes of a slot are written. -/
theorem State.readBuf_fillSlot_of_le (s : State) (k : Slot) {bytes : List Byte} (hb : bytes.length ≤ 10) (a : BufAddr) :
    (s.fillSlot k bytes).readBuf a = if a.slot = k then bytes.getD a.index.val (s.readBuf a) else s.readBuf a := by
  simp only [State.readBuf, State.fillSlot_buf, Memory.read_writeBytes]
  by_cases hslot : a.slot = k
  · subst hslot
    rw [if_pos rfl]
    by_cases hidx : a.index.val < bytes.length
    · rw [if_pos (by simp [BufAddr.cell, hidx])]
      simp [BufAddr.cell, hidx]
    · rw [if_neg (by simp [BufAddr.cell]; omega), List.getD_eq_default _ _ (Nat.not_lt.1 hidx)]
  · obtain rfl : k = a.slot.other := Slot.eq_other_of_ne (Ne.symm hslot)
    have := a.cell_outside_other
    rw [if_neg (by omega), if_neg hslot]

/-- Settles O18: the first ten bytes fill the inactive slot from its start, and the active slot is another one. -/
theorem wholeCommandFillsTheInactiveBuffer : Obligations.WholeCommandFillsTheInactiveBuffer := by
  intro s payload hawait hpos hlen
  have hread (a : BufAddr) := State.readBuf_fillSlot_of_le s s.act.other (List.length_take_le 10 payload) a
  refine ⟨_, execAll_command hawait hpos hlen, fun k => ?_, fun k => ?_, rfl⟩
  · refine (hread ⟨s.act.other, k⟩).trans ?_
    rw [if_pos rfl, List.getD_eq_getElem?_getD, List.getElem?_take_of_lt k.isLt, ← List.getD_eq_getElem?_getD]
  · refine (hread ⟨s.act, k⟩).trans ?_
    rw [if_neg (Slot.ne_other s.act)]

end Sys2Proof.Machine
end

section
/-! SUPPORT. Debounce ticks and consumed edges, lane by lane (40_debounce.md R81 to R87; 20_memory.md R48). -/

namespace Sys2Proof.Machine

/-! ### One lane -/

theorem Lane.count_withCount {n : Nat} (hn : n < 4) (l : Lane) : (l.withCount n).count = n := by
  interval_cases n <;> rfl

theorem Lane.update_of_agree {b : Bool} {l : Lane} (h : b = l.state) : l.update b = l.withCount 0 := if_pos h

theorem Lane.update_of_counting {b : Bool} {l : Lane} (h : b ≠ l.state) (hcount : l.count + 1 < 2) :
    l.update b = l.withCount (l.count + 1) := by
  unfold Lane.update
  rw [if_neg h]
  exact if_pos hcount

theorem Lane.update_of_flip {b : Bool} {l : Lane} (h : b ≠ l.state) (hcount : 2 ≤ l.count + 1) :
    l.update b = { l.withCount 0 with state := b, edge := pressEdgeAfter l.edge l.state b } := by
  unfold Lane.update
  rw [if_neg h]
  exact if_neg (Nat.not_lt.2 hcount)

/-- A lane at rest is its debounced bit and its edge. -/
theorem Lane.eq_of_count_eq_zero {l : Lane} (h : l.count = 0) :
    l = { state := l.state, ct0 := false, ct1 := false, edge := l.edge } := by
  obtain ⟨b, ct0, ct1, e⟩ := l
  cases ct0 <;> cases ct1
  case false.false => rfl
  all_goals cases h

/-- R84 (a): a spike of one tick leaves a lane at rest as it was. -/
theorem Lane.update_spike {l : Lane} (hcount : l.count = 0) (hup : l.state = false) :
    (l.update true).update false = l := by
  rw [Lane.eq_of_count_eq_zero hcount, hup]
  rfl

/-- R84 (b): a press held for two ticks flips a lane at rest and sets its edge. -/
theorem Lane.update_held {l : Lane} (hcount : l.count = 0) (hup : l.state = false) :
    (l.update true).update true = { state := true, ct0 := false, ct1 := false, edge := true } := by
  rw [Lane.eq_of_count_eq_zero hcount, hup]
  cases l.edge <;> rfl

/-- The edge has no say in what an update does to the debounced bit. -/
theorem Lane.state_update_withEdge (l : Lane) (b e : Bool) :
    (Lane.update b { l with edge := e }).state = (l.update b).state := by
  rcases l with ⟨_ | _, _ | _, _ | _, _⟩ <;> cases b <;> rfl

/-! ### Ticks -/

/-- Settles O21: the three branches of one lane's update. -/
theorem debounceTickCountsAndFlipsEachButton : Obligations.DebounceTickCountsAndFlipsEachButton := by
  refine fun v s => ⟨_, exec_dbTick v s, fun i => ?_⟩
  have hlane := lane_dbTick v s i
  have hstate : (tickDivide (resetCheck (dbUpdate v s))).dbState.getLsbD i =
      ((s.lane i).update (v.getLsbD i)).state := congrArg Lane.state hlane
  rw [hstate, hlane]
  refine ⟨fun hagree => ?_, fun hdiffer hcount => ?_, fun hdiffer hcount => ?_⟩
  · rw [Lane.update_of_agree hagree]
    exact ⟨rfl, Lane.count_withCount (by decide) _⟩
  · rw [Lane.update_of_counting hdiffer hcount]
    exact ⟨rfl, Lane.count_withCount (by omega) _⟩
  · rw [Lane.update_of_flip hdiffer hcount]
    exact ⟨rfl, Lane.count_withCount (n := 0) (by decide) (s.lane i)⟩

/-- R87: the update in bitwise form, where the second plane of the counts is 0. -/
theorem dbUpdate_bitwise (v : Btn) {s : State} (hct1 : s.dbCt1 = 0#4) :
    dbUpdate v s = { s with
      dbCt0 := (v ^^^ s.dbState) &&& ~~~s.dbCt0
      dbCt1 := 0#4
      dbState := s.dbState ^^^ ((v ^^^ s.dbState) &&& s.dbCt0)
      pressEdge := s.pressEdge ||| (((v ^^^ s.dbState) &&& s.dbCt0) &&& v) } := by
  have hlane (i : Fin 4) := Lane.update_of_ct1 (v.getLsbD i) (s.lane i) (by simp [State.lane, hct1])
  have hbit (i : Fin 4) : (i : Nat) < 4 := i.isLt
  unfold dbUpdate
  simp only [hlane]
  congr 1 <;> refine btn_ext fun i => ?_ <;> rw [getLsbD_btnOf] <;> simp [State.lane, hbit]

theorem resetCheck_eq_self {s : State} (h : ¬(s.rsState = .normal ∧ s.dbState = 0b1100#4)) : resetCheck s = s := if_neg h

theorem tickDivide_of_lt {s : State} (h : s.tickCnt.toNat + 1 < 3) :
    tickDivide s = { s with tickCnt := s.tickCnt + 1#2 } := if_pos h

/-- Settles O23: the update in bitwise form, no reset sequence and no third tick. -/
theorem ordinaryDebounceTickInBitwiseForm : Obligations.OrdinaryDebounceTickInBitwiseForm := by
  intro v s hct1 htick hcalm
  rw [exec_dbTick, dbUpdate_bitwise v hct1, resetCheck_eq_self, tickDivide_of_lt (by exact Nat.succ_lt_succ htick)]
  rintro ⟨hmode, hcombo⟩
  rcases hcalm with hmode' | hother
  · cases hmode.symm.trans hmode'
  · exact hother hcombo

/-- Settles O24: the reset check is `RESET_ENTER` or nothing, and the tick divider counts or is `ANIM_TICK`. -/
theorem debounceTickPerformsItsPartsInOrder : Obligations.DebounceTickPerformsItsPartsInOrder := by
  intro v s u r hu henter hpass
  have hr : resetCheck u = r := by
    rcases resetCheck_cases u with ⟨hmode, hcombo, hcheck⟩ | ⟨hno, hcheck⟩
    · exact hcheck.trans (Host.Outcome.next.inj (henter ⟨hmode, hcombo⟩))
    · exact hcheck.trans (hpass hno).symm
  have htick : r.tickCnt = s.tickCnt := by rw [← hr, resetCheck_tickCnt, hu, dbUpdate_tickCnt]
  rw [exec_dbTick, ← hu, hr, ← htick]
  rcases tickDivide_cases r with ⟨hlt, hdiv⟩ | ⟨hge, hdiv⟩
  · exact ⟨fun _ => congrArg _ hdiv, fun hge => absurd hlt (Nat.not_lt.2 hge)⟩
  · exact ⟨fun hlt => absurd hlt (Nat.not_lt.2 hge), fun _ => congrArg _ hdiv⟩

/-- Two ticks, lane by lane. -/
theorem execAll_two_dbTicks (v w : Btn) (s : State) :
    ∃ t, execAll [.dbTick v, .dbTick w] s = .next t ∧
      ∀ i : Fin 4, t.lane i = ((s.lane i).update (v.getLsbD i)).update (w.getLsbD i) := by
  refine ⟨_, (execAll_cons (exec_dbTick v s)).trans (execAll_cons (exec_dbTick w _)), fun i => ?_⟩
  rw [lane_dbTick, lane_dbTick]

/-- Settles O25: the lane of the button is back where it was. -/
theorem singleTickSpikeSetsNoEdge : Obligations.SingleTickSpikeSetsNoEdge := by
  intro v w s i hup hcount hv hw
  obtain ⟨t, hrun, hlane⟩ := execAll_two_dbTicks v w s
  have hback := hlane i
  rw [hv, hw, Lane.update_spike hcount hup] at hback
  exact ⟨t, hrun, (congrArg Lane.state hback).trans hup, (congrArg Lane.count hback).trans hcount,
    congrArg Lane.edge hback⟩

/-! ### Consumed edges -/

/-- Settles O27: clearing the returned edges is clearing the selected ones. -/
theorem consumeReadsAndClearsTheSelectedEdges : Obligations.ConsumeReadsAndClearsTheSelectedEdges := by
  intro m s
  have hclear : s.pressEdge &&& ~~~(s.pressEdge &&& m) = s.pressEdge &&& ~~~m := by
    refine BitVec.eq_of_getLsbD_eq fun i hi => ?_
    cases hedge : s.pressEdge[i] <;> simp [hi, hedge]
  rw [← hclear]
  rfl

/-- Settles O28: no selected edge is left for the second `CONSUME`. -/
theorem secondConsumeReturnsZero : Obligations.SecondConsumeReturnsZero := by
  intro m s
  have hgone : s.pressEdge &&& ~~~m &&& m = 0#4 := by rw [BitVec.and_assoc]; simp
  have hsame : s.pressEdge &&& ~~~m &&& ~~~m = s.pressEdge &&& ~~~m := by rw [BitVec.and_assoc, BitVec.and_self]
  refine ⟨_, (execAll_cons (consumeReadsAndClearsTheSelectedEdges m s)).trans
    (execAll_cons (consumeReadsAndClearsTheSelectedEdges m _)), congrArg some hgone, hsame⟩

/-- R85: a `CONSUME` takes the selected edge off a lane and leaves the rest of it. -/
theorem exec_consume_lane (m : Btn) (s : State) :
    ∃ t, exec (.consume m) s = .next t ∧
      ∀ i : Fin 4, t.lane i = { s.lane i with edge := (s.lane i).edge && !m.getLsbD i } := by
  refine ⟨_, consumeReadsAndClearsTheSelectedEdges m s, fun i => ?_⟩
  simp [State.lane]

/-- Settles O26: the held press flips the lane and sets its edge; consumed, a lane that agrees sets no other one. -/
theorem heldPressSetsTheEdgeOnce : Obligations.HeldPressSetsTheEdgeOnce := by
  intro v w x m s i hup hcount hv hw hx hm
  obtain ⟨t, hrun, hlane⟩ := execAll_two_dbTicks v w s
  have hpressed := hlane i
  rw [hv, hw, Lane.update_held hcount hup] at hpressed
  obtain ⟨c, hconsume, hcleared⟩ := exec_consume_lane m t
  have hheld := lane_dbTick x c i
  rw [hcleared i, hpressed, hm, hx] at hheld
  exact ⟨t, _, hrun, congrArg Lane.state hpressed, congrArg Lane.edge hpressed,
    (execAll_cons hconsume).trans (execAll_cons (exec_dbTick x c)), congrArg Lane.state hheld,
    congrArg Lane.edge hheld⟩

/-- Settles O29: a tick before the `CONSUME` leaves it the edges; one after it sets its own on those left. -/
theorem noPressEdgeIsLost : Obligations.NoPressEdgeIsLost := by
  intro v m s u hu
  refine ⟨⟨_, (execAll_cons hu).trans (execAll_cons (consumeReadsAndClearsTheSelectedEdges m u)), rfl, rfl⟩, ?_⟩
  obtain ⟨c, hconsume, hcleared⟩ := exec_consume_lane m s
  refine ⟨_, (execAll_cons hconsume).trans (execAll_cons (exec_dbTick v c)), fun i => ?_⟩
  obtain rfl : tickDivide (resetCheck (dbUpdate v s)) = u := Host.Outcome.next.inj hu
  have hedge := edge_lane_dbTick v c i
  have hstate : ((tickDivide (resetCheck (dbUpdate v c))).lane i).state =
      ((tickDivide (resetCheck (dbUpdate v s))).lane i).state := by
    rw [lane_dbTick, lane_dbTick, hcleared i, Lane.state_update_withEdge]
  rw [hstate, hcleared i] at hedge
  exact hedge

end Sys2Proof.Machine
end

section
/-! SUPPORT. Animation ticks: the curve's shape, the swap, and the ticks of one phase (42_animation.md R110 to R119;
20_memory.md R49). -/

namespace Sys2Proof.Machine

/-! ### The colour curve -/

/-- Settles O33: the integer form of the curve, segment by segment. -/
theorem colourCurveIsMonotoneAndBelow255 : Obligations.ColourCurveIsMonotoneAndBelow255 := by
  refine ⟨fun v w hle => ?_, fun v w hge hlt => ?_, fun v w hnext => ?_, fun v => ?_, fun v w hv hw => ?_⟩
  · rw [lin_toNat, lin_toNat]
    split_ifs <;> omega
  · rw [lin_toNat, lin_toNat]
    split_ifs <;> omega
  · rw [lin_toNat, lin_toNat]
    split_ifs <;> omega
  · have := v.isLt
    rw [lin_toNat]
    split_ifs <;> omega
  · rw [← BitVec.toNat_inj, lin_toNat, lin_toNat, if_pos hv, if_pos hw]

/-! ### One tick without a swap -/

/-- R112 to R115: every channel ramps and its duty is published. -/
def tickChannels (s : State) : State := publishDuty (rampChannels s)

theorem animTick_eq {s : State} (hready : s.cmdReady = false) :
    animTick s = phaseStep (s.phaseField .time) (tickChannels s) := animTick_of_not_ready hready

theorem tickChannels_cur (s : State) (c : Channel) :
    (tickChannels s).cur.get c = ramp (s.cur.get c) (s.phaseField c.field) (effectiveSlew (s.phaseField .slew)) :=
  Rgb.get_of _ c

/-- R113: the channels after a tick without a swap. -/
theorem animTick_cur {s : State} (hready : s.cmdReady = false) (c : Channel) :
    (animTick s).cur.get c = ramp (s.cur.get c) (s.phaseField c.field) (effectiveSlew (s.phaseField .slew)) := by
  rw [animTick_eq hready, phaseStep_cur, tickChannels_cur]

/-- R110: besides the animation registers, a tick without a swap and with `pt` below `time` changes nothing. -/
theorem animTick_eq_update {s : State} (hready : s.cmdReady = false)
    (hpt : s.phaseField .time ≠ 0#8 → s.pt.toNat < (s.phaseField .time).toNat) :
    animTick s = { s with
      cur := (animTick s).cur, duty := (animTick s).duty, pt := (animTick s).pt, phase := (animTick s).phase } := by
  rw [animTick_eq hready]
  rcases phaseStep_cases (s.phaseField .time) (tickChannels s) hpt with ⟨_, e⟩ | ⟨_, _, e⟩ | ⟨_, _, e⟩ <;> rw [e] <;> rfl

theorem phaseStep_of_held (s : State) : phaseStep 0#8 s = s := if_pos rfl

theorem phaseStep_of_last {time : Byte} {s : State} (htimed : time ≠ 0#8) (hlast : s.pt.toNat + 1 = time.toNat) :
    phaseStep time s = { s with pt := 0#8, phase := s.phase.other } := (if_neg htimed).trans (if_pos hlast)

theorem phaseStep_of_more {time : Byte} {s : State} (hmore : s.pt.toNat + 1 < time.toNat) :
    phaseStep time s = { s with pt := s.pt + 1#8 } := by
  have htime := time.isLt
  have htimed : time ≠ 0#8 := by
    rintro rfl
    exact Nat.not_lt_zero _ hmore
  unfold phaseStep
  rw [if_neg htimed, if_neg (Nat.ne_of_lt hmore), if_pos (by omega)]

theorem phase_animTick_of_held {s : State} (hready : s.cmdReady = false) (hheld : s.phaseField .time = 0#8) :
    (animTick s).pt = s.pt ∧ (animTick s).phase = s.phase := by
  rw [animTick_eq hready, hheld, phaseStep_of_held]
  exact ⟨rfl, rfl⟩

theorem phase_animTick_of_last {s : State} (hready : s.cmdReady = false) (htimed : s.phaseField .time ≠ 0#8)
    (hlast : s.pt.toNat + 1 = (s.phaseField .time).toNat) :
    (animTick s).pt = 0#8 ∧ (animTick s).phase = s.phase.other := by
  rw [animTick_eq hready, phaseStep_of_last (s := tickChannels s) htimed hlast]
  exact ⟨rfl, rfl⟩

theorem phase_animTick_of_more {s : State} (hready : s.cmdReady = false)
    (hmore : s.pt.toNat + 1 < (s.phaseField .time).toNat) :
    (animTick s).pt.toNat = s.pt.toNat + 1 ∧ (animTick s).phase = s.phase := by
  rw [animTick_eq hready, phaseStep_of_more (s := tickChannels s) hmore]
  exact ⟨BitVec.toNat_add_of_lt (Nat.lt_trans hmore (s.phaseField .time).isLt), rfl⟩

/-- Settles O35: the channels ramp and show their duty, and the phase steps in one of three ways. -/
theorem animationTickRampsThenStepsThePhase : Obligations.AnimationTickRampsThenStepsThePhase := by
  intro s hready hpt
  refine ⟨_, exec_animTick s, fun c => ⟨animTick_cur hready c, animTick_duty s c⟩, phase_animTick_of_held hready,
    phase_animTick_of_last hready, fun htimed hmore => ?_, animTick_eq_update hready hpt⟩
  have := hpt htimed
  exact phase_animTick_of_more hready (by omega)

/-! ### A tick with a swap -/

/-- R111: the registers a swap writes; `cur` and `duty` stay. -/
theorem swap_eq_update (s : State) :
    swap s = { s with
      buf := (swap s).buf, act := s.act.other, phase := .zero, pt := 0#8, cmdReady := false } := rfl

/-- Settles O36: the state is the swapped one. -/
theorem animationTickSwapsAReadyCommandFirst : Obligations.AnimationTickSwapsAReadyCommandFirst := by
  intro s hready
  refine ⟨swap s, congrArg Host.Outcome.next (animTick_of_ready hready), fun k => ?_, fun k => ?_, fun c hc => ?_,
    swap_eq_update s⟩
  · rw [readBuf_swap, if_pos rfl]
  · rw [readBuf_swap, if_neg (Slot.other_ne s.act)]
  · exact State.read_fillSlot_beyond s s.act _ rfl hc

/-! ### The ticks of one phase -/

theorem execAll_animTicks (s : State) (n : Nat) :
    execAll (List.replicate n .animTick) s = .next (animTick^[n] s) := by
  induction n generalizing s with
  | zero => rfl
  | succ n ih => rw [List.replicate_succ, execAll_cons (exec_animTick s), ih, Function.iterate_succ_apply]

/-- The active phase of `t` is that of `s`, with no command ready in either: the targets, slew and time are the same. -/
structure SamePhase (s t : State) : Prop where
  ready : t.cmdReady = false
  phase : t.phase = s.phase
  field : ∀ f, t.phaseField f = s.phaseField f

theorem SamePhase.trans {s t u : State} (h : SamePhase s t) (k : SamePhase t u) : SamePhase s u :=
  ⟨k.ready, k.phase.trans h.phase, fun f => (k.field f).trans (h.field f)⟩

/-- A tick that keeps the phase keeps its fields, since no tick without a swap moves a buffer. -/
theorem samePhase_animTick {s : State} (hready : s.cmdReady = false) (hphase : (animTick s).phase = s.phase) :
    SamePhase s (animTick s) := by
  refine ⟨animTick_cmdReady s, hphase, phaseField_congr (fun k => ?_) hphase⟩
  unfold State.readBuf
  rw [animTick_buf, animTick_act, swapIfReady_buf_of_not_ready hready]

/-- `n` more ticks do not end the phase (R117): it is held for ever, or they stay below its time. -/
def Stays (s : State) (n : Nat) : Prop := s.phaseField .time = 0#8 ∨ s.pt.toNat + n < (s.phaseField .time).toNat

theorem Stays.tick {s : State} {n : Nat} (hready : s.cmdReady = false) (h : Stays s (n + 1)) :
    SamePhase s (animTick s) ∧ Stays (animTick s) n ∧
      (s.phaseField .time ≠ 0#8 → (animTick s).pt.toNat = s.pt.toNat + 1) := by
  rcases h with hheld | hmore
  · have hsame := samePhase_animTick hready (phase_animTick_of_held hready hheld).2
    exact ⟨hsame, .inl ((hsame.field _).trans hheld), fun htimed => absurd hheld htimed⟩
  · obtain ⟨hpt, hphase⟩ := phase_animTick_of_more hready (by omega)
    have hsame := samePhase_animTick hready hphase
    refine ⟨hsame, .inr ?_, fun _ => hpt⟩
    rw [hsame.field, hpt]
    omega

/-- R117, R113: `n` ticks that do not end the phase count in it and ramp every channel `n` times, by induction. -/
theorem iterate_animTick {s : State} {n : Nat} (hready : s.cmdReady = false) (hstays : Stays s n) :
    SamePhase s (animTick^[n] s) ∧
    (s.phaseField .time ≠ 0#8 → (animTick^[n] s).pt.toNat = s.pt.toNat + n) ∧
    ∀ c : Channel, (animTick^[n] s).cur.get c =
      (fun v => ramp v (s.phaseField c.field) (effectiveSlew (s.phaseField .slew)))^[n] (s.cur.get c) := by
  induction n generalizing s with
  | zero => exact ⟨⟨hready, rfl, fun _ => rfl⟩, fun _ => rfl, fun _ => rfl⟩
  | succ n ih =>
    obtain ⟨hsame, hrest, hpt⟩ := hstays.tick hready
    obtain ⟨hsame', hpt', hcur'⟩ := ih hsame.ready hrest
    rw [hsame.field] at hpt'
    refine ⟨hsame.trans hsame', fun htimed => ?_, fun c => ?_⟩
    · rw [Function.iterate_succ_apply, hpt' htimed, hpt htimed]
      omega
    · rw [Function.iterate_succ_apply, hcur' c, hsame.field, hsame.field, animTick_cur hready, Function.iterate_succ_apply]

/-- Settles O37: before its last tick the phase stays and counts, and the last one flips it. -/
theorem phaseLastsExactlyItsTime : Obligations.PhaseLastsExactlyItsTime := by
  intro s hready hstart htimed
  have hstays {n : Nat} (hn : n < (s.phaseField .time).toNat) : Stays s n := .inr (by rw [hstart]; simpa using hn)
  have hcount {n : Nat} (hn : n < (s.phaseField .time).toNat) : (animTick^[n] s).pt.toNat = n := by
    obtain ⟨_, hpt, _⟩ := iterate_animTick hready (hstays hn)
    rw [hpt htimed, hstart]
    exact Nat.zero_add n
  refine ⟨fun n hn => ⟨_, execAll_animTicks s n, (iterate_animTick hready (hstays hn)).1.phase, hcount hn⟩, ?_⟩
  have hpos : (s.phaseField .time).toNat ≠ 0 := fun h => htimed (BitVec.eq_of_toNat_eq h)
  obtain ⟨m, hm⟩ := Nat.exists_eq_succ_of_ne_zero hpos
  have hlt : m < (s.phaseField .time).toNat := by omega
  obtain ⟨hsame, _, _⟩ := iterate_animTick hready (hstays hlt)
  obtain ⟨hpt, hphase⟩ := phase_animTick_of_last hsame.ready (by rwa [hsame.field]) (by rw [hcount hlt, hsame.field, hm])
  refine ⟨_, execAll_animTicks s _, ?_⟩
  rw [hm, Function.iterate_succ_apply']
  exact ⟨hphase.trans (congrArg _ hsame.phase), hpt⟩

/-- R119: after `m + 1` ticks, all but the last within the phase, every channel whose distance they cover shows its target
exactly; the last one ramps before it may flip the phase. -/
theorem reaches_target {s : State} {m : Nat} (hready : s.cmdReady = false) (hstays : Stays s m)
    (hfar : ∀ c : Channel,
      (s.phaseField c.field).toNat ≤ (s.cur.get c).toNat + (m + 1) * (effectiveSlew (s.phaseField .slew)).toNat ∧
      (s.cur.get c).toNat ≤ (s.phaseField c.field).toNat + (m + 1) * (effectiveSlew (s.phaseField .slew)).toNat) :
    ∃ t, execAll (List.replicate (m + 1) .animTick) s = .next t ∧
      ∀ c : Channel, t.cur.get c = s.phaseField c.field ∧ t.duty.get c = lin (s.phaseField c.field) := by
  obtain ⟨hsame, _, hcur⟩ := iterate_animTick hready hstays
  have hreach (c : Channel) : (animTick^[m + 1] s).cur.get c = s.phaseField c.field := by
    rw [Function.iterate_succ_apply', animTick_cur hsame.ready, hsame.field, hsame.field, hcur,
      ← Function.iterate_succ_apply' (fun v => ramp v (s.phaseField c.field) (effectiveSlew (s.phaseField .slew)))]
    refine (iterate_ramp_eq_target _ _ _ (m + 1)).2 ?_
    have := hfar c
    unfold distance
    omega
  refine ⟨_, execAll_animTicks s (m + 1), fun c => ⟨hreach c, ?_⟩⟩
  rw [← hreach c, Function.iterate_succ_apply']
  exact animTick_duty _ c

/-- Settles O38: a phase held for ever stays for any number of ticks. -/
theorem heldPhaseReachesItsTargetExactly : Obligations.HeldPhaseReachesItsTargetExactly := by
  intro s n hready hheld hpos hfar
  obtain ⟨m, rfl⟩ := Nat.exists_eq_add_of_le' hpos
  exact reaches_target hready (.inl hheld) hfar

/-- Settles O57: a timed phase stays for all of the ticks but the last. -/
theorem longEnoughPhaseReachesItsTargetExactly : Obligations.LongEnoughPhaseReachesItsTargetExactly := by
  intro s n hready hpos htime hfar
  obtain ⟨m, rfl⟩ := Nat.exists_eq_add_of_le' hpos
  exact reaches_target hready (.inr (by omega)) hfar

/-! ### The inactive buffer -/

/-- A tick without a swap on another buffer whose active phase reads alike does the same to every register. -/
theorem animTick_withBuf {s : State} (b : Memory) (hready : s.cmdReady = false)
    (hfield : ∀ f, State.phaseField { s with buf := b } f = s.phaseField f) :
    animTick { s with buf := b } = { animTick s with buf := b } := by
  have hchannels : tickChannels { s with buf := b } = { tickChannels s with buf := b } := by
    unfold tickChannels publishDuty rampChannels
    simp only [hfield]
  rw [animTick_eq hready, animTick_eq (s := { s with buf := b }) hready, hfield, hchannels]
  unfold phaseStep
  split_ifs <;> rfl

/-- Settles O39: both ticks do the same to either state and move no buffer. -/
theorem inactiveBufferIsInvisibleBeforeTheSwap : Obligations.InactiveBufferIsInvisibleBeforeTheSwap := by
  rintro s t ⟨hbut, hactive⟩ hready i hi
  generalize t.buf = b at hbut
  subst hbut
  have hfield (f : Field) : State.phaseField { s with buf := b } f = s.phaseField f :=
    (hactive (s.phaseAddr f) rfl).symm
  simp only [List.mem_cons, List.not_mem_nil, or_false] at hi
  rcases hi with rfl | rfl
  · refine ⟨_, _, exec_animTick s, exec_animTick _, ?_⟩
    rw [animTick_withBuf b hready hfield]
    refine ⟨rfl, fun a ha => ?_⟩
    unfold State.readBuf
    rw [animTick_act, swapIfReady_buf_of_not_ready hready] at ha
    rw [animTick_buf, swapIfReady_buf_of_not_ready hready]
    exact hactive a ha
  · exact ⟨_, _, rfl, rfl, rfl, hactive⟩

end Sys2Proof.Machine
end

section
/-! SUPPORT. PWM ticks and whole frames of them (43_pwm.md R131 to R133). -/

namespace Sys2Proof.Machine

/-! ### One tick -/

/-- The state a PWM tick leaves (R131). -/
def afterPwmTick (s : State) : State :=
  { s with portData := s.portValue, pwmIndex := BitVec.ofNat 8 ((s.pwmIndex.toNat + 1) % 256) }

theorem exec_pwmTick (s : State) : exec .pwmTick s = .next (afterPwmTick s) := rfl

/-- R131: the lamp of a channel is on while the counter was below its duty. -/
theorem led_afterPwmTick (s : State) (c : Channel) :
    (afterPwmTick s).led.getLsbD c.field.offset = decide (s.pwmIndex.toNat < (s.duty.get c).toNat) := by
  have hchannel : c.field.offset < 3 := by cases c <;> decide
  unfold State.led
  rw [BitVec.getLsbD_extractLsb', decide_eq_true hchannel, Bool.true_and, Nat.zero_add]
  exact getLsbD_portValue s c

theorem pwmIndex_afterPwmTick (s : State) : (afterPwmTick s).pwmIndex.toNat = (s.pwmIndex.toNat + 1) % 256 := by
  show (BitVec.ofNat 8 ((s.pwmIndex.toNat + 1) % 256)).toNat = _
  rw [BitVec.toNat_ofNat, Nat.mod_mod]

/-- Settles O40: the port value bit by bit, and the counter modulo 256. -/
theorem pwmTickWritesThePortAndMovesOn : Obligations.PwmTickWritesThePortAndMovesOn := by
  refine fun s => ⟨_, exec_pwmTick s, led_afterPwmTick s, portValue_lines s, ?_, rfl⟩
  have := s.pwmIndex.isLt
  rw [pwmIndex_afterPwmTick]
  split <;> omega

/-! ### A frame of 256 ticks -/

/-- A property that comes back every `a` numbers holds as often in any `a` consecutive ones as in the first `a`. -/
theorem count_shift_of_periodic (p : ℕ → Prop) [DecidablePred p] {a : ℕ} (hperiod : ∀ k, p (a + k) ↔ p k) (n : ℕ) :
    Nat.count (fun k => p (n + k)) a = Nat.count p a := by
  have hfront := Nat.count_add p n a
  have hback := Nat.count_add p a n
  simp only [hperiod] at hback
  rw [Nat.add_comm a n, hfront, Nat.add_comm] at hback
  exact Nat.add_right_cancel hback

theorem count_lt_of_le {d n : ℕ} (h : d ≤ n) : Nat.count (fun k => k < d) n = d := by
  obtain ⟨m, rfl⟩ := Nat.exists_eq_add_of_le h
  rw [Nat.count_add, Nat.count_of_forall fun _ hk => hk, Nat.count_of_forall_not fun _ _ => by omega, Nat.add_zero]

/-- R133: 256 consecutive values of a counter modulo 256 are below `d` just `d` times, wherever they start. -/
theorem count_mod_lt {d : ℕ} (hd : d ≤ 256) (n : ℕ) : Nat.count (fun k => (n + k) % 256 < d) 256 = d := by
  rw [count_shift_of_periodic (fun k => k % 256 < d) (fun k => by rw [Nat.add_mod_left])]
  calc Nat.count (fun k => k % 256 < d) 256
      = Nat.count (fun k => k < d) 256 := by
        refine List.countP_congr fun k hk => ?_
        simp only [Nat.mod_eq_of_lt (List.mem_range.1 hk)]
    _ = d := count_lt_of_le hd

theorem iterate_afterPwmTick (s : State) (n : ℕ) :
    (afterPwmTick^[n] s).pwmIndex.toNat = (s.pwmIndex.toNat + n) % 256 ∧ (afterPwmTick^[n] s).duty = s.duty := by
  induction n with
  | zero => exact ⟨(Nat.mod_eq_of_lt s.pwmIndex.isLt).symm, rfl⟩
  | succ n ih =>
    obtain ⟨hindex, hduty⟩ := ih
    rw [Function.iterate_succ_apply', pwmIndex_afterPwmTick, hindex, Nat.mod_add_mod]
    exact ⟨rfl, hduty⟩

/-- Settles O41: the counter goes through 256 consecutive values, and the duty stays. -/
theorem pwmFrameIsOnForDutyTicks : Obligations.PwmFrameIsOnForDutyTicks := by
  intro s
  refine ⟨fun n => afterPwmTick^[n] s, rfl, fun n => ?_, fun c => ?_⟩
  · exact (exec_pwmTick _).trans (congrArg _ (Function.iterate_succ_apply' afterPwmTick n s).symm)
  · have hlit (n : ℕ) : (afterPwmTick^[n + 1] s).led.getLsbD c.field.offset =
        decide ((s.pwmIndex.toNat + n) % 256 < (s.duty.get c).toNat) := by
      obtain ⟨hindex, hduty⟩ := iterate_afterPwmTick s n
      rw [Function.iterate_succ_apply', led_afterPwmTick, hindex, hduty]
    simp only [hlit]
    exact count_mod_lt (Nat.le_of_lt (s.duty.get c).isLt) s.pwmIndex.toNat

end Sys2Proof.Machine
end

section
/-! SUPPORT. The reset sequence and the restarts (44_reset_sequencer.md R141 to R146; 60_exceptions.md R156;
70_reset_and_hazards.md R170). -/

namespace Sys2Proof.Machine

/-! ### The restarts -/

theorem exec_resetEnter (s : State) : exec .resetEnter s = .next (resetEnter s) := rfl

theorem exec_wdtFire_of_armed {s : State} (h : s.wdtArmed = true) : exec .wdtFire s = .next (restart s) :=
  (exec_wdtFire s).trans (if_pos h)

/-- Settles O47: the restart while armed, the refusal while not. -/
theorem watchdogRestartsWhenArmed : Obligations.WatchdogRestartsWhenArmed := by
  refine ⟨fun s harmed => exec_wdtFire_of_armed harmed, fun s hunarmed => ?_⟩
  rw [exec_wdtFire, hunarmed]
  rfl

/-- Settles O49: the reset state, register by register; a space without cells reads as zero. -/
theorem resetLeavesEveryRegisterZero : Obligations.ResetLeavesEveryRegisterZero :=
  ⟨fun a => Memory.read_nil a.cell, rfl, rfl, rfl, rfl, rfl, rfl, rfl, rfl, rfl, rfl, rfl, rfl, rfl, rfl, rfl, rfl, rfl,
    rfl, rfl⟩

/-- R170: power-on reset is the restart, in every state. -/
theorem exec_por (s : State) : exec .por s = .next (restart s) := rfl

/-- Settles O50: power-on reset is the restart, and the restart is the reset state with the model's own fields kept. -/
theorem powerOnGivesEveryRegisterItsResetValue : Obligations.PowerOnGivesEveryRegisterItsResetValue := exec_por

/-! ### Entry into RESETTING -/

/-- R141: the registers `RESET_ENTER` writes. -/
theorem resetEnter_eq_update (s : State) :
    resetEnter s = { s with
      buf := (resetEnter s).buf, rsState := .resetting, cmdReady := true, rstOe := true, wdtArmed := true } := by
  apply State.ext <;> simp only [resetEnter_dbState, resetEnter_dbCt0, resetEnter_dbCt1, resetEnter_pressEdge,
    resetEnter_tickCnt, resetEnter_rxRem, resetEnter_rxIdx, resetEnter_cmdReady, resetEnter_txData, resetEnter_act,
    resetEnter_phase, resetEnter_pt, resetEnter_cur, resetEnter_duty, resetEnter_pwmIndex, resetEnter_portData,
    resetEnter_rsState, resetEnter_rstOe, resetEnter_wdtArmed, resetEnter_events, resetEnter_out, resetEnter_freeCount]

/-- Settles O43: the pattern goes to the slot that is not active. -/
theorem resetEnterWritesThePatternAndTheFlags : Obligations.ResetEnterWritesThePatternAndTheFlags := by
  refine fun s => ⟨_, exec_resetEnter s, fun k => ?_, fun k => ?_, fun c hc => ?_, resetEnter_eq_update s⟩
  · rw [readBuf_resetEnter]
    exact if_pos rfl
  · rw [readBuf_resetEnter]
    exact if_neg (Slot.ne_other s.act)
  · rw [resetEnter_buf, ← State.fillSlot_buf]
    exact State.read_fillSlot_beyond s s.inactive flashPattern flashPattern_length hc

/-- R141, R145: what the reset check does to the mode and the two flags it sets. -/
theorem resetCheck_keeps_or_enters (s : State) :
    ((resetCheck s).rsState = s.rsState ∧ (resetCheck s).rstOe = s.rstOe ∧ (resetCheck s).wdtArmed = s.wdtArmed) ∨
    (s.rsState = .normal ∧ s.dbState = 0b1100#4 ∧
      (resetCheck s).rsState = .resetting ∧ (resetCheck s).rstOe = true ∧ (resetCheck s).wdtArmed = true) := by
  rcases resetCheck_cases s with ⟨hmode, hcombo, hcheck⟩ | ⟨_, hcheck⟩
  · rw [hcheck]
    exact .inr ⟨hmode, hcombo, resetEnter_rsState s, resetEnter_rstOe s, resetEnter_wdtArmed s⟩
  · rw [hcheck]
    exact .inl ⟨rfl, rfl, rfl⟩

/-- R145: the same of a whole debounce tick, with the debounced state it ends with. -/
theorem dbTick_keeps_or_enters {v : Btn} {s t : State} (h : exec (.dbTick v) s = .next t) :
    (t.rsState = s.rsState ∧ t.rstOe = s.rstOe ∧ t.wdtArmed = s.wdtArmed) ∨
    (s.rsState = .normal ∧ t.dbState = 0b1100#4 ∧ t.rsState = .resetting ∧ t.rstOe = true ∧ t.wdtArmed = true) := by
  obtain rfl := Host.Outcome.next.inj h
  simp only [tickDivide_rsState, tickDivide_rstOe, tickDivide_wdtArmed, tickDivide_dbState, resetCheck_dbState]
  exact resetCheck_keeps_or_enters (dbUpdate v s)

/-- R145: the mode a debounce tick ends in. -/
theorem rsState_dbTick (v : Btn) (s : State) :
    (tickDivide (resetCheck (dbUpdate v s))).rsState = .resetting ↔
      s.rsState = .resetting ∨ (tickDivide (resetCheck (dbUpdate v s))).dbState = 0b1100#4 := by
  rw [tickDivide_rsState, rsState_resetCheck, tickDivide_dbState, resetCheck_dbState, dbUpdate_rsState]

/-- Settles O44: the mode after the tick, and the flags that the entry sets. -/
theorem debounceTickTriggersOnExactlyTheCombination : Obligations.DebounceTickTriggersOnExactlyTheCombination := by
  refine fun v s => ⟨_, exec_dbTick v s, fun hnormal => ?_, fun hnormal hcombo => ?_, fun hresetting => ?_⟩
  · rw [rsState_dbTick, hnormal]
    simp
  · rcases dbTick_keeps_or_enters (exec_dbTick v s) with ⟨hmode, _⟩ | ⟨_, _, _, hoe, harmed⟩
    · have hentered := (rsState_dbTick v s).2 (.inr hcombo)
      cases hentered.symm.trans (hmode.trans hnormal)
    · exact ⟨hoe, harmed⟩
  · exact (rsState_dbTick v s).2 (.inl hresetting)

/-- The last shape of `exec_cases` is that of the restarts only. -/
theorem not_restart {i : Instr} {s : State} (hpor : i ≠ .por) (hwdt : i ≠ .wdtFire) :
    ¬(i = .por ∨ i = .wdtFire ∧ s.wdtArmed = true) :=
  fun h => h.elim hpor fun hfire => hwdt hfire.1

/-- R143: what an operation other than a restart does to the mode and the flags of the reset sequence. -/
theorem exec_keeps_or_enters {i : Instr} {s t : State} (hpor : i ≠ .por) (hwdt : i ≠ .wdtFire)
    (h : exec i s = .next t) :
    (t.rsState = s.rsState ∧ t.rstOe = s.rstOe ∧ t.wdtArmed = s.wdtArmed) ∨
    (t.rsState = .resetting ∧ t.rstOe = true ∧ t.wdtArmed = true ∧
      (i = .resetEnter ∨ ∃ v, i = .dbTick v ∧ s.rsState = .normal ∧ t.dbState = 0b1100#4)) := by
  rcases exec_cases h with ⟨b, _, rfl⟩ | ⟨v, rfl, rfl⟩ | ⟨_, rfl⟩ | ⟨m, _, rfl⟩ | ⟨_, rfl⟩ | ⟨rfl, rfl⟩ | ⟨hrestart, _⟩
  · exact .inl ⟨receive_rsState b s, receive_rstOe b s, receive_wdtArmed b s⟩
  · rcases dbTick_keeps_or_enters h with hkeeps | ⟨hnormal, hcombo, hmode, hoe, harmed⟩
    · exact .inl hkeeps
    · exact .inr ⟨hmode, hoe, harmed, .inr ⟨v, rfl, hnormal, hcombo⟩⟩
  · exact .inl ⟨rfl, rfl, rfl⟩
  · exact .inl ⟨rfl, rfl, rfl⟩
  · exact .inl ⟨animTick_rsState s, animTick_rstOe s, animTick_wdtArmed s⟩
  · exact .inr ⟨resetEnter_rsState s, resetEnter_rstOe s, resetEnter_wdtArmed s, .inl rfl⟩
  · exact absurd hrestart (not_restart hpor hwdt)

/-- Settles O45: the mode and the flags stay or are set. -/
theorem onlyARestartLeavesResetting : Obligations.OnlyARestartLeavesResetting := by
  intro i s t hpor hwdt h
  rcases exec_keeps_or_enters hpor hwdt h with ⟨hmode, hoe, harmed⟩ | ⟨hmode, hoe, harmed, _⟩
  · exact ⟨hmode.trans, hoe.trans, harmed.trans⟩
  · exact ⟨fun _ => hmode, fun _ => hoe, fun _ => harmed⟩

/-- The events still to come are the environment's: no operation takes one off. -/
theorem exec_events {i : Instr} {s t : State} (h : exec i s = .next t) : t.events = s.events := by
  rcases exec_cases h with ⟨b, _, rfl⟩ | ⟨v, _, rfl⟩ | ⟨_, rfl⟩ | ⟨m, _, rfl⟩ | ⟨_, rfl⟩ | ⟨_, rfl⟩ | ⟨_, rfl⟩
  · exact receive_events b s
  · rw [tickDivide_events, resetCheck_events, dbUpdate_events]
  · rfl
  · rfl
  · exact animTick_events s
  · exact resetEnter_events s
  · rfl

theorem restart_rsState (s : State) : (restart s).rsState = .normal := rfl

/-- R156: an operation that a strobe starts enters RESETTING only as a debounce tick on the combination. -/
theorem exec_external_enters {i : Instr} {s t : State} (hext : i.isExternal = true) (h : exec i s = .next t)
    (hnormal : s.rsState = .normal) (hresetting : t.rsState = .resetting) :
    ∃ v, i = .dbTick v ∧ t.dbState = 0b1100#4 := by
  by_cases hrestart : i = .por ∨ i = .wdtFire
  · have ht : t = restart s := by
      rcases hrestart with rfl | rfl
      · exact (Host.Outcome.next.inj h).symm
      · have harmed := (exec_wdtFire_answers_iff s).1 ⟨t, h⟩
        exact (Host.Outcome.next.inj ((exec_wdtFire_of_armed harmed).symm.trans h)).symm
    rw [ht, restart_rsState] at hresetting
    cases hresetting
  · obtain ⟨hpor, hwdt⟩ := not_or.1 hrestart
    rcases exec_keeps_or_enters hpor hwdt h with ⟨hmode, _⟩ | ⟨_, _, _, rfl | ⟨v, rfl, _, hcombo⟩⟩
    · cases hresetting.symm.trans (hmode.trans hnormal)
    · cases hext
    · exact ⟨v, rfl, hcombo⟩

/-- R72: the word of a debounce tick. -/
theorem eq_tickEvent_of_decodeEvent {w : EventWord} {v : Btn} (h : decodeEvent w = .ok (.dbTick v)) : w = tickEvent v :=
  (Code.event.inj (encode_of_decodeEvent h)).symm

/-- Settles O46: without an event, and at an annotation, the mode stays; else the operation is one a strobe starts. -/
theorem onlyTheButtonsEnterResetting : Obligations.OnlyTheButtonsEnterResetting := by
  intro s t hstep hnormal hresetting
  rcases step_cases hstep with ⟨_, rfl⟩ | ⟨w, rest, i, _, _, _, rfl⟩ | ⟨w, rest, i, hev, hdec, hext, hexec⟩
  · cases hresetting.symm.trans hnormal
  · cases hresetting.symm.trans hnormal
  · obtain ⟨v, rfl, hcombo⟩ := exec_external_enters hext hexec hnormal hresetting
    exact ⟨v, rest, by rw [hev, eq_tickEvent_of_decodeEvent hdec], exec_events hexec, hcombo⟩

/-- R146: after a restart, one tick on the combination starts all counts of its buttons and no more. -/
theorem exec_dbTick_restart (s : State) :
    exec (.dbTick 0b1100#4) (restart s) = .next { restart s with dbCt0 := 0b1100#4, tickCnt := 1#2 } := by
  rw [ordinaryDebounceTickInBitwiseForm 0b1100#4 (restart s) rfl (by decide : (0#2).toNat < 2)
    (.inr (by decide : 0b0000#4 ^^^ ((0b1100#4 ^^^ 0b0000#4) &&& 0b0000#4) ≠ 0b1100#4))]
  simp [restart, State.reset]

/-- Settles O48: the first tick starts the counts, and the second flips both buttons, which is the combination. -/
theorem heldCombinationTriggersAgainAfterTheRestart : Obligations.HeldCombinationTriggersAgainAfterTheRestart := by
  intro s harmed
  refine ⟨_, _, (execAll_cons (exec_wdtFire_of_armed harmed)).trans (execAll_cons (exec_dbTick_restart s)), rfl, rfl,
    exec_dbTick _ _, ?_⟩
  have hcombo : (tickDivide (resetCheck (dbUpdate 0b1100#4
      { restart s with dbCt0 := 0b1100#4, tickCnt := 1#2 }))).dbState = 0b1100#4 := by
    rw [tickDivide_dbState, resetCheck_dbState, dbUpdate_bitwise _ rfl]
    exact (by decide : 0b0000#4 ^^^ ((0b1100#4 ^^^ 0b0000#4) &&& 0b1100#4) = 0b1100#4)
  rcases dbTick_keeps_or_enters (exec_dbTick 0b1100#4 { restart s with dbCt0 := 0b1100#4, tickCnt := 1#2 }) with
    ⟨hmode, _⟩ | ⟨_, _, hmode, hoe, harmed'⟩
  · cases ((rsState_dbTick _ _).2 (.inr hcombo)).symm.trans hmode
  · exact ⟨hmode, hoe, harmed'⟩

/-! ### The reset lines -/

theorem rstLineData_congr {s t : State} (h : t.portData = s.portData) : t.rstLineData = s.rstLineData := by
  unfold State.rstLineData
  rw [h]

/-- R132: only a PWM tick and the restarts write the port, and they write the reset lines low. -/
theorem exec_rstLineData {i : Instr} {s t : State} (h : exec i s = .next t) (hlow : s.rstLineData = 0b00#2) :
    t.rstLineData = 0b00#2 := by
  rcases exec_cases h with ⟨b, _, rfl⟩ | ⟨v, _, rfl⟩ | ⟨_, rfl⟩ | ⟨m, _, rfl⟩ | ⟨_, rfl⟩ | ⟨_, rfl⟩ | ⟨_, rfl⟩
  · exact (rstLineData_congr (receive_portData b s)).trans hlow
  · refine (rstLineData_congr ?_).trans hlow
    rw [tickDivide_portData, resetCheck_portData, dbUpdate_portData]
  · exact portValue_lines s
  · exact hlow
  · exact (rstLineData_congr (animTick_portData s)).trans hlow
  · exact (rstLineData_congr (resetEnter_portData s)).trans hlow
  · exact (rstLineData_congr (s := State.reset) rfl).trans (by decide)

/-- Settles O42: the lines stay low, and the pins show them when driven. -/
theorem resetLinesAreNeverDrivenHigh : Obligations.ResetLinesAreNeverDrivenHigh := by
  intro i s t h hlow
  have hlines := exec_rstLineData h hlow
  refine ⟨hlines, fun hdriven => ?_, fun hreleased => ?_⟩
  · unfold State.rstLinePins
    rw [if_pos hdriven, hlines]
  · unfold State.rstLinePins
    rw [hreleased]
    rfl

end Sys2Proof.Machine
end

section
/-! SUPPORT. What an operation other than a restart does to the active buffer and to the flags (10_state.md R16, R20 (i);
20_memory.md R42, R51). -/

namespace Sys2Proof.Machine

/-! ### The active buffer -/

theorem animTick_buffers_of_not_ready {s : State} (hready : s.cmdReady = false) :
    (animTick s).act = s.act ∧ (animTick s).buf = s.buf := by
  rw [animTick_act, animTick_buf, swapIfReady_buf_of_not_ready hready]
  exact ⟨rfl, rfl⟩

/-- R111: with a command ready the buffers change places, and the one taken out of use is zero. -/
theorem animTick_buffers_of_ready {s : State} (hready : s.cmdReady = true) :
    (animTick s).act = s.act.other ∧ ∀ k : Fin 10, (animTick s).readBuf ⟨s.act, k⟩ = 0x00#8 := by
  have hswap : (swap s).cmdReady = false := swap_cmdReady s
  obtain ⟨hact, hbuf⟩ := animTick_buffers_of_not_ready hswap
  rw [animTick_of_ready hready]
  refine ⟨hact, fun k => ?_⟩
  unfold State.readBuf
  rw [hbuf]
  exact (readBuf_swap s ⟨s.act, k⟩).trans (if_pos rfl)

/-- From `s` to `t` the active buffer of `s` is kept byte by byte while it stays active, and is zero once it is not. -/
def KeepsActiveBuffer (s t : State) : Prop :=
  (t.act = s.act → ∀ k : Fin 10, t.readBuf ⟨s.act, k⟩ = s.readBuf ⟨s.act, k⟩) ∧
  (t.act ≠ s.act → ∀ k : Fin 10, t.readBuf ⟨s.act, k⟩ = 0x00#8)

theorem keepsActiveBuffer_of_eq {s t : State} (hact : t.act = s.act)
    (hread : ∀ k : Fin 10, t.readBuf ⟨s.act, k⟩ = s.readBuf ⟨s.act, k⟩) : KeepsActiveBuffer s t :=
  ⟨fun _ => hread, fun hmoved => absurd hact hmoved⟩

/-- An operation in two parts, of which the first leaves the active buffer as it was. -/
theorem KeepsActiveBuffer.of_unchanged {s u t : State} (h : KeepsActiveBuffer u t) (hact : u.act = s.act)
    (hread : ∀ k : Fin 10, u.readBuf ⟨s.act, k⟩ = s.readBuf ⟨s.act, k⟩) : KeepsActiveBuffer s t := by
  obtain ⟨hstays, hmoves⟩ := h
  rw [hact] at hstays hmoves
  exact ⟨fun hsame k => (hstays hsame k).trans (hread k), hmoves⟩

theorem keepsActiveBuffer_animTick (s : State) : KeepsActiveBuffer s (animTick s) := by
  cases hready : s.cmdReady with
  | false =>
    obtain ⟨hact, hbuf⟩ := animTick_buffers_of_not_ready hready
    refine keepsActiveBuffer_of_eq hact fun k => ?_
    unfold State.readBuf
    rw [hbuf]
  | true =>
    obtain ⟨hact, hzero⟩ := animTick_buffers_of_ready hready
    exact ⟨fun hsame => absurd (hact.symm.trans hsame) (Slot.other_ne s.act), fun _ => hzero⟩

theorem readBuf_resetEnter_active (s : State) (k : Fin 10) :
    (resetEnter s).readBuf ⟨s.act, k⟩ = s.readBuf ⟨s.act, k⟩ := by
  rw [readBuf_resetEnter]
  exact if_neg (Slot.ne_other s.act)

theorem readBuf_resetCheck_active (s : State) (k : Fin 10) :
    (resetCheck s).readBuf ⟨s.act, k⟩ = s.readBuf ⟨s.act, k⟩ := by
  rcases resetCheck_cases s with ⟨_, _, hcheck⟩ | ⟨_, hcheck⟩ <;> rw [hcheck]
  exact readBuf_resetEnter_active s k

theorem keepsActiveBuffer_tickDivide (s : State) : KeepsActiveBuffer s (tickDivide s) := by
  rcases tickDivide_cases s with ⟨_, hdiv⟩ | ⟨_, hdiv⟩ <;> rw [hdiv]
  · exact keepsActiveBuffer_of_eq rfl fun _ => rfl
  · exact keepsActiveBuffer_animTick { s with tickCnt := 0#2 }

/-- Settles O53: no operation stores to the active buffer, and a tick that changes the buffers zeroes the old one. -/
theorem nothingWritesTheActiveBuffer : Obligations.NothingWritesTheActiveBuffer := by
  intro i s t hpor hwdt h
  change KeepsActiveBuffer s t
  rcases exec_cases h with ⟨b, _, rfl⟩ | ⟨v, _, rfl⟩ | ⟨_, rfl⟩ | ⟨m, _, rfl⟩ | ⟨_, rfl⟩ | ⟨_, rfl⟩ | ⟨hrestart, _⟩
  · exact keepsActiveBuffer_of_eq (receive_act b s) (readBuf_receive_active b s)
  · exact (keepsActiveBuffer_tickDivide _).of_unchanged (resetCheck_act _) (readBuf_resetCheck_active (dbUpdate v s))
  · exact keepsActiveBuffer_of_eq rfl fun _ => rfl
  · exact keepsActiveBuffer_of_eq rfl fun _ => rfl
  · exact keepsActiveBuffer_animTick s
  · exact keepsActiveBuffer_of_eq (resetEnter_act s) (readBuf_resetEnter_active s)
  · exact absurd hrestart (not_restart hpor hwdt)

/-! ### `cmd_ready` -/

/-- R97: the byte that raises the flag is the last of its payload. -/
theorem receive_raises_ready {b : Byte} {s : State} (hdown : s.cmdReady = false)
    (hup : (receive b (receiveHeader b) s).cmdReady = true) :
    s.rxRem = 1#4 ∧ (receive b (receiveHeader b) s).rxRem = 0#4 := by
  rw [cmdReady_receive, hdown, Bool.false_or, decide_eq_true_iff] at hup
  have hpay : s.rxRem ≠ 0#4 := by
    rw [hup]
    decide
  rw [receive_of_payload hpay, receivePayload_rxRem, loadStatus_rxRem, hup]
  exact ⟨rfl, rfl⟩

/-- R111: the tick divider never raises the flag. -/
theorem ready_of_ready_tickDivide {s : State} (hup : (tickDivide s).cmdReady = true) : s.cmdReady = true := by
  rcases tickDivide_cases s with ⟨_, hdiv⟩ | ⟨_, hdiv⟩ <;> rw [hdiv] at hup
  · exact hup
  · rw [animTick_cmdReady] at hup
    cases hup

/-- R111: the tick divider clears the flag by a swap only. -/
theorem act_tickDivide_of_cleared {s : State} (hup : s.cmdReady = true) (hdown : (tickDivide s).cmdReady = false) :
    (tickDivide s).act = s.act.other := by
  rcases tickDivide_cases s with ⟨_, hdiv⟩ | ⟨_, hdiv⟩ <;> rw [hdiv] at hdown ⊢
  · cases hup.symm.trans hdown
  · exact (animTick_buffers_of_ready (s := { s with tickCnt := 0#2 }) hup).1

theorem ready_resetCheck {s : State} (hup : s.cmdReady = true) : (resetCheck s).cmdReady = true := by
  rcases resetCheck_cases s with ⟨_, _, hcheck⟩ | ⟨_, hcheck⟩ <;> rw [hcheck]
  · exact resetEnter_cmdReady s
  · exact hup

/-- R141: a debounce tick raises the flag only as it enters RESETTING. -/
theorem dbTick_raises_ready {v : Btn} {s : State} (hdown : s.cmdReady = false)
    (hup : (tickDivide (resetCheck (dbUpdate v s))).cmdReady = true) :
    s.rsState = .normal ∧ (tickDivide (resetCheck (dbUpdate v s))).rsState = .resetting := by
  have hcheck := ready_of_ready_tickDivide hup
  rw [tickDivide_rsState]
  rcases resetCheck_cases (dbUpdate v s) with ⟨hnormal, _, henter⟩ | ⟨_, hsame⟩
  · rw [henter]
    exact ⟨hnormal, resetEnter_rsState _⟩
  · rw [hsame, dbUpdate_cmdReady, hdown] at hcheck
    cases hcheck

section
variable {i : Instr} {s t : State}

theorem exec_raises_ready (hpor : i ≠ .por) (hwdt : i ≠ .wdtFire) (h : exec i s = .next t)
    (hdown : s.cmdReady = false) (hup : t.cmdReady = true) :
    ((∃ b, encode i = .byte b ∨ i = .rxByte b) ∧ s.rxRem = 1#4 ∧ t.rxRem = 0#4) ∨
    (i = .resetEnter ∨ ∃ v, i = .dbTick v ∧ s.rsState = .normal ∧ t.rsState = .resetting) := by
  rcases exec_cases h with ⟨b, hb, rfl⟩ | ⟨v, hv, rfl⟩ | ⟨_, rfl⟩ | ⟨m, _, rfl⟩ | ⟨_, rfl⟩ | ⟨hi, _⟩ | ⟨hrestart, _⟩
  · exact .inl ⟨⟨b, hb⟩, receive_raises_ready hdown hup⟩
  · exact .inr (.inr ⟨v, hv, dbTick_raises_ready hdown hup⟩)
  · cases hdown.symm.trans hup
  · cases hdown.symm.trans hup
  · cases (animTick_cmdReady s).symm.trans hup
  · exact .inr (.inl hi)
  · exact absurd hrestart (not_restart hpor hwdt)

theorem exec_clears_ready (hpor : i ≠ .por) (hwdt : i ≠ .wdtFire) (h : exec i s = .next t)
    (hup : s.cmdReady = true) (hdown : t.cmdReady = false) :
    t.act = s.act.other ∧ (i = .animTick ∨ ∃ v, i = .dbTick v) := by
  rcases exec_cases h with ⟨b, _, rfl⟩ | ⟨v, hv, rfl⟩ | ⟨_, rfl⟩ | ⟨m, _, rfl⟩ | ⟨hi, rfl⟩ | ⟨_, rfl⟩ | ⟨hrestart, _⟩
  · rw [cmdReady_receive, hup] at hdown
    cases hdown
  · have hcheck := ready_resetCheck (s := dbUpdate v s) hup
    exact ⟨(act_tickDivide_of_cleared hcheck hdown).trans (congrArg _ (resetCheck_act _)), .inr ⟨v, hv⟩⟩
  · cases hup.symm.trans hdown
  · cases hup.symm.trans hdown
  · exact ⟨(animTick_buffers_of_ready hup).1, .inl hi⟩
  · cases (resetEnter_cmdReady s).symm.trans hdown
  · exact absurd hrestart (not_restart hpor hwdt)

/-! ### `press_edge` -/

/-- R82, R85: the edges are kept, or a `CONSUME` clears those it selects, or a debounce tick sets those of its presses. -/
theorem exec_pressEdge (hpor : i ≠ .por) (hwdt : i ≠ .wdtFire) (h : exec i s = .next t) :
    t.pressEdge = s.pressEdge ∨
    (∃ m, i = .consume m ∧ t.pressEdge = s.pressEdge &&& ~~~m) ∨
    (∃ v, i = .dbTick v ∧ ∀ k : Fin 4, t.pressEdge.getLsbD k =
      (s.pressEdge.getLsbD k || (!s.dbState.getLsbD k && t.dbState.getLsbD k))) := by
  rcases exec_cases h with ⟨b, _, rfl⟩ | ⟨v, hv, rfl⟩ | ⟨_, rfl⟩ | ⟨m, hm, _⟩ | ⟨_, rfl⟩ | ⟨_, rfl⟩ | ⟨hrestart, _⟩
  · exact .inl (receive_pressEdge b s)
  · exact .inr (.inr ⟨v, hv, edge_lane_dbTick v s⟩)
  · exact .inl rfl
  · subst hm
    obtain rfl := Host.Outcome.next.inj ((consumeReadsAndClearsTheSelectedEdges m s).symm.trans h)
    exact .inr (.inl ⟨m, rfl, rfl⟩)
  · exact .inl (animTick_pressEdge s)
  · exact .inl (resetEnter_pressEdge s)
  · exact absurd hrestart (not_restart hpor hwdt)

theorem exec_sets_edge (hpor : i ≠ .por) (hwdt : i ≠ .wdtFire) (h : exec i s = .next t) (k : Fin 4)
    (hdown : s.pressEdge.getLsbD k = false) (hup : t.pressEdge.getLsbD k = true) :
    s.dbState.getLsbD k = false ∧ t.dbState.getLsbD k = true ∧ ∃ v, i = .dbTick v := by
  rcases exec_pressEdge hpor hwdt h with hkept | ⟨m, _, hcleared⟩ | ⟨v, hv, hset⟩
  · rw [hkept, hdown] at hup
    cases hup
  · rw [hcleared, BitVec.getLsbD_and, hdown] at hup
    cases hup
  · rw [hset k, hdown] at hup
    simp only [Bool.false_or, Bool.and_eq_true, Bool.not_eq_true'] at hup
    exact ⟨hup.1, hup.2, v, hv⟩

theorem exec_clears_edge (hpor : i ≠ .por) (hwdt : i ≠ .wdtFire) (h : exec i s = .next t) (k : Fin 4)
    (hup : s.pressEdge.getLsbD k = true) (hdown : t.pressEdge.getLsbD k = false) :
    ∃ m : Btn, i = .consume m ∧ m.getLsbD k = true := by
  rcases exec_pressEdge hpor hwdt h with hkept | ⟨m, hm, hcleared⟩ | ⟨v, _, hset⟩
  · rw [hkept, hup] at hdown
    cases hdown
  · rw [hcleared, BitVec.getLsbD_and, BitVec.getLsbD_not, hup, decide_eq_true k.isLt] at hdown
    simp only [Bool.true_and, Bool.not_eq_false'] at hdown
    exact ⟨m, hm, hdown⟩
  · rw [hset k, hup] at hdown
    cases hdown

/-! ### `rst_oe` and `wdt_armed` -/

theorem exec_changes_reset_flags (hpor : i ≠ .por) (hwdt : i ≠ .wdtFire) (h : exec i s = .next t)
    (hchanged : s.rstOe ≠ t.rstOe ∨ s.wdtArmed ≠ t.wdtArmed) :
    t.rstOe = true ∧ t.wdtArmed = true ∧
      (i = .resetEnter ∨ ∃ v, i = .dbTick v ∧ s.rsState = .normal ∧ t.rsState = .resetting) := by
  rcases exec_keeps_or_enters hpor hwdt h with ⟨_, hoe, harmed⟩ | ⟨hmode, hoe, harmed, hwhich⟩
  · rcases hchanged with hne | hne
    · exact absurd hoe.symm hne
    · exact absurd harmed.symm hne
  · refine ⟨hoe, harmed, hwhich.imp_right ?_⟩
    rintro ⟨v, hv, hnormal, _⟩
    exact ⟨v, hv, hnormal, hmode⟩

end

/-- Settles O54: flag by flag, what sets it and what clears it. -/
theorem flagsChangeOnlyAsListed : Obligations.FlagsChangeOnlyAsListed :=
  fun _ _ _ hpor hwdt h => ⟨exec_raises_ready hpor hwdt h, exec_clears_ready hpor hwdt h, exec_sets_edge hpor hwdt h,
    exec_clears_edge hpor hwdt h, exec_changes_reset_flags hpor hwdt h⟩

end Sys2Proof.Machine
end

section
/-! SUPPORT. The invariants of 10_state.md R20 (a) to (g), operation by operation. -/

namespace Sys2Proof.Machine

/-! ### What the invariants do not speak of -/

/-- The events, the outputs and the count of free values are in no invariant. -/
theorem Inv.withOwnFields {s : State} (h : Inv s) (events : List EventWord) (out : Outputs) (freeCount : Nat) :
    Inv { s with events := events, out := out, freeCount := freeCount } :=
  { tick_lt := h.tick_lt, count_lt := h.count_lt, idx_zero := h.idx_zero, idx_add_rem_le := h.idx_add_rem_le,
    duty_eq_lin := h.duty_eq_lin, pt_lt_time := h.pt_lt_time, lines_low := h.lines_low, mode_eq_oe := h.mode_eq_oe,
    oe_eq_armed := h.oe_eq_armed, status_reserved := h.status_reserved, buf_wf := h.buf_wf }

/-! ### Restarts and small operations -/

/-- Settles O51: the reset state, invariant by invariant. -/
theorem resetMeetsTheInvariants : Obligations.ResetMeetsTheInvariants :=
  { tick_lt := by decide
    count_lt := by decide
    idx_zero := fun _ => rfl
    idx_add_rem_le := by decide
    duty_eq_lin := fun c => by cases c <;> decide
    pt_lt_time := fun htimed => absurd rfl htimed
    lines_low := by decide
    mode_eq_oe := by decide
    oe_eq_armed := rfl
    status_reserved := by decide
    buf_wf := reset_buf_wf }

theorem inv_restart (s : State) : Inv (restart s) :=
  resetMeetsTheInvariants.withOwnFields s.events State.reset.out s.freeCount

theorem inv_pwmTick {s : State} (h : Inv s) : Inv (afterPwmTick s) :=
  { h with lines_low := portValue_lines s }

theorem inv_consume {s : State} (h : Inv s) (m : Btn) (out : Outputs) :
    Inv { clearEdges (s.matchedEdges m) s with out := out } :=
  { h with }

/-- An operation that keeps the buffers' active phase and `pt` keeps R20 (e). -/
theorem Inv.pt_lt_time_of_field {s t : State} (h : Inv s) (hpt : t.pt = s.pt)
    (hfield : t.phaseField .time = s.phaseField .time) :
    t.phaseField .time ≠ 0#8 → t.pt.toNat < (t.phaseField .time).toNat := by
  rw [hfield, hpt]
  exact h.pt_lt_time

/-! ### The animation tick -/

theorem pos_of_ne_zero {b : Byte} (h : b ≠ 0#8) : 0 < b.toNat :=
  Nat.pos_of_ne_zero fun hzero => h (BitVec.eq_of_toNat_eq hzero)

/-- R111: a new phase starts at its first tick. -/
theorem inv_swap {s : State} (h : Inv s) : Inv (swap s) := by
  have hwf := wf_swap h.buf_wf
  rw [swap_eq_update] at hwf ⊢
  generalize (swap s).buf = b at hwf
  exact { h with pt_lt_time := pos_of_ne_zero, buf_wf := hwf }

theorem inv_tickChannels {s : State} (h : Inv s) : Inv (tickChannels s) :=
  { h with duty_eq_lin := fun c => Rgb.get_of _ c }

/-- R117: `pt` is counted up while it stays below the time of the phase, and starts again with the other phase. -/
theorem inv_phaseStep {s : State} (h : Inv s) : Inv (phaseStep (s.phaseField .time) s) := by
  rcases phaseStep_cases (s.phaseField .time) s h.pt_lt_time with ⟨_, hstep⟩ | ⟨_, _, hstep⟩ | ⟨_, hmore, hstep⟩ <;>
    rw [hstep]
  · exact h
  · exact { h with pt_lt_time := pos_of_ne_zero }
  · have hpt : (s.pt + 1#8).toNat = s.pt.toNat + 1 :=
      BitVec.toNat_add_of_lt (Nat.lt_trans hmore (s.phaseField .time).isLt)
    exact { h with pt_lt_time := fun _ => hpt.trans_lt hmore }

theorem inv_animTick {s : State} (h : Inv s) : Inv (animTick s) := by
  have hunswapped {u : State} (hu : Inv u) (hready : u.cmdReady = false) : Inv (animTick u) := by
    rw [animTick_eq hready]
    exact inv_phaseStep (inv_tickChannels hu)
  cases hready : s.cmdReady with
  | false => exact hunswapped h hready
  | true =>
    rw [animTick_of_ready hready]
    exact hunswapped (inv_swap h) (swap_cmdReady s)

/-! ### The debounce tick -/

theorem inv_dbUpdate {s : State} (h : Inv s) (v : Btn) : Inv (dbUpdate v s) :=
  { h with
    count_lt := fun i => by
      rw [lane_dbUpdate]
      exact Lane.update_count_lt _ _ }

/-- R141: the mode and its two flags are set together, and the pattern goes to the inactive buffer. -/
theorem inv_resetEnter {s : State} (h : Inv s) : Inv (resetEnter s) := by
  have hwf := wf_resetEnter h.buf_wf
  have htime := h.pt_lt_time_of_field (resetEnter_pt s) (phaseField_congr (fun k => by
    rw [resetEnter_act]
    exact readBuf_resetEnter_active s k) (resetEnter_phase s) _)
  rw [resetEnter_eq_update] at hwf htime ⊢
  generalize (resetEnter s).buf = b at hwf htime
  exact { h with
    pt_lt_time := htime, mode_eq_oe := ⟨fun _ => rfl, fun _ => rfl⟩, oe_eq_armed := rfl, buf_wf := hwf }

theorem inv_resetCheck {s : State} (h : Inv s) : Inv (resetCheck s) := by
  rcases resetCheck_cases s with ⟨_, _, hcheck⟩ | ⟨_, hcheck⟩ <;> rw [hcheck]
  · exact inv_resetEnter h
  · exact h

theorem inv_withTickCnt {s : State} (h : Inv s) {n : BitVec 2} (hn : n.toNat < 3) : Inv { s with tickCnt := n } :=
  { h with tick_lt := hn }

theorem inv_tickDivide {s : State} (h : Inv s) : Inv (tickDivide s) := by
  rcases tickDivide_cases s with ⟨hlt, hdiv⟩ | ⟨_, hdiv⟩ <;> rw [hdiv]
  · exact inv_withTickCnt h (by bv_omega)
  · exact inv_animTick (inv_withTickCnt h (by decide))

/-! ### The received byte -/

theorem inv_loadStatus {s : State} (h : Inv s) : Inv (loadStatus s) :=
  { h with status_reserved := by rw [loadStatus_txData, setWidth_eq_zero_append, highNibble_append] }

theorem inv_headerCommand {s : State} (h : Inv s) (n : Nibble) : Inv (headerCommand n s) :=
  { h with
    idx_zero := fun _ => rfl
    idx_add_rem_le := by
      rw [headerCommand_rxIdx, headerCommand_rxRem]
      bv_omega }

theorem inv_receiveHeader {s : State} (h : Inv s) (b : Byte) : Inv (receiveHeader b s) := by
  unfold receiveHeader
  split_ifs
  · exact inv_headerCommand h (lowNibble b)
  · exact inv_headerCommand h 0#4
  · exact inv_headerCommand h 0#4

/-- R96, R97: index and bytes to come add up to the same count until the last byte, and the store is not to the active
buffer. -/
theorem inv_receivePayload {s : State} (h : Inv s) (hpay : s.rxRem ≠ 0#4) (b : Byte) : Inv (receivePayload b s) := by
  have hsum := h.idx_add_rem_le
  have hwf := wf_receivePayload h.buf_wf b
  have hfield : (receivePayload b s).phaseField .time = s.phaseField .time :=
    phaseField_congr (fun k => by rw [receivePayload_act]; exact readBuf_receivePayload_active b s k)
      (receivePayload_phase b s) _
  have htime := h.pt_lt_time_of_field (receivePayload_pt b s) hfield
  by_cases hlast : s.rxRem = 1#4
  · rw [receivePayload_of_last hlast] at hwf htime ⊢
    exact { h with idx_zero := fun _ => rfl, idx_add_rem_le := Nat.zero_le 15, pt_lt_time := htime, buf_wf := hwf }
  · have hidx : s.rxIdx.toNat + 1 < 16 := by bv_omega
    rw [receivePayload_of_more hlast hidx] at hwf htime ⊢
    refine { h with idx_zero := fun hdone => ?_, idx_add_rem_le := ?_, pt_lt_time := htime, buf_wf := hwf }
    · have hdone : s.rxRem - 1#4 = 0#4 := hdone
      exact absurd (by bv_omega) hlast
    · show (s.rxIdx + 1#4).toNat + (s.rxRem - 1#4).toNat ≤ 15
      bv_omega

theorem inv_receive {s : State} (h : Inv s) (b : Byte) : Inv (receive b (receiveHeader b) s) := by
  by_cases hawait : s.rxRem = 0#4
  · rw [receive_of_awaiting hawait]
    exact inv_receiveHeader (inv_loadStatus h) b
  · rw [receive_of_payload hawait]
    exact inv_receivePayload (inv_loadStatus h) hawait b

/-! ### All operations -/

/-- R20: every operation keeps the invariants. -/
theorem inv_exec {i : Instr} {s t : State} (h : Inv s) (hexec : exec i s = .next t) : Inv t := by
  rcases exec_cases hexec with ⟨b, _, rfl⟩ | ⟨v, _, rfl⟩ | ⟨_, rfl⟩ | ⟨m, _, rfl⟩ | ⟨_, rfl⟩ | ⟨_, rfl⟩ | ⟨_, rfl⟩
  · exact inv_receive h b
  · exact inv_tickDivide (inv_resetCheck (inv_dbUpdate h v))
  · exact inv_pwmTick h
  · exact inv_consume h m _
  · exact inv_animTick h
  · exact inv_resetEnter h
  · exact inv_restart s

/-- Settles O52: delivery touches none of the registers the invariants speak of, and every operation keeps them. -/
theorem everyStepKeepsTheInvariants : Obligations.EveryStepKeepsTheInvariants := by
  intro s t h hstep
  rcases step_cases hstep with ⟨_, rfl⟩ | ⟨w, rest, i, _, _, _, rfl⟩ | ⟨w, rest, i, _, _, _, hexec⟩
  · exact h.withOwnFields s.events Outputs.quiet s.freeCount
  · exact h.withOwnFields rest Outputs.quiet s.freeCount
  · exact inv_exec (h.withOwnFields rest Outputs.quiet s.freeCount) hexec

end Sys2Proof.Machine
end
